-- ==== Sys2Proof/Word.lean ====
section
/-! DEFINITION. The two widths of the core (`00_scope.md` R5): the byte, which is the unit of memory
and the width of a general register, and the 16-bit word, which is the width of an address, of a
register pair, of `pc` and of `sp`. Arithmetic on both wraps (`10_state.md` R17), which is what
`BitVec` addition and subtraction do. -/

namespace Sys2Proof

/-- An 8-bit register or one byte of memory. -/
abbrev Byte := BitVec 8

/-- A 16-bit address, register pair, program counter or stack pointer. -/
abbrev Word := BitVec 16

end Sys2Proof
end

