-- ==== Sys2Proof/Syntax.lean ====
section
/-! DEFINITION. The instructions: one constructor of `Instr` for each row of `opcode_table.json`
(`30_encoding.md` R55: 255 base bytes and 256 extended bytes), and the selectors their rules range
over (`10_state.md` R23). A constructor is named after its row: `m` before an operand means the memory
byte at that address, so `ld_mHLinc_A` is `LD (HL+),A`. -/

namespace Sys2Proof

/-- The seven registers an 8-bit register field selects (`10_state.md` R23; F is never selected). -/
inductive R8 where
  | B | C | D | E | H | L | A
deriving DecidableEq, Repr

/-- The eight values of an 8-bit operand field: a register, or (index 6) the memory byte at HL (R23). -/
inductive Opnd where
  | reg (r : R8)
  | mHL
deriving DecidableEq, Repr

/-- The pair table `xp` (R23). -/
inductive RP where
  | BC | DE | HL | SP
deriving DecidableEq, Repr

/-- The pair table `xq` of PUSH and POP (R23). -/
inductive RQ where
  | BC | DE | HL | AF
deriving DecidableEq, Repr

/-- The four conditions (`45_control.md` R135). -/
inductive Cond where
  | NZ | Z | NC | C
deriving DecidableEq, Repr

/-- The eight accumulator operations (`42_alu8.md` R90), in the order of their field. -/
inductive AluOp where
  | add | adc | sub | sbc | and | xor | or | cp
deriving DecidableEq, Repr

/-- The eight rotates and shifts of the extended table (`44_rotate_shift_bit.md` section 3), in the
order of their field. -/
inductive RotOp where
  | rlc | rrc | rl | rr | sla | sra | swap | srl
deriving DecidableEq, Repr

/-- The instruction set. Operand bytes are held as the manual holds them: `d8`, `a8` and `e8` are bytes
(an `e8` is sign-extended where it is used, `30_encoding.md` R47), `d16` and `a16` are words. The rows with an operand stand
first, each group in the table's order, because Lean's compiler bounds the tag of a constructor with fields. -/
inductive Instr where
  /-- `LD BC,d16`: 01 (R80) -/
  | ld_BC_d16 (d16 : Word)
  /-- `LD B,d8`: 06 (R60) -/
  | ld_B_d8 (d8 : Byte)
  /-- `LD (a16),SP`: 08 (R81) -/
  | ld_mA16_SP (a16 : Word)
  /-- `LD C,d8`: 0E (R60) -/
  | ld_C_d8 (d8 : Byte)
  /-- `LD DE,d16`: 11 (R80) -/
  | ld_DE_d16 (d16 : Word)
  /-- `LD D,d8`: 16 (R60) -/
  | ld_D_d8 (d8 : Byte)
  /-- `JR e8`: 18 (R139) -/
  | jr_e8 (e8 : Byte)
  /-- `LD E,d8`: 1E (R60) -/
  | ld_E_d8 (d8 : Byte)
  /-- `JR NZ,e8`: 20 (R140) -/
  | jr_NZ_e8 (e8 : Byte)
  /-- `LD HL,d16`: 21 (R80) -/
  | ld_HL_d16 (d16 : Word)
  /-- `LD H,d8`: 26 (R60) -/
  | ld_H_d8 (d8 : Byte)
  /-- `JR Z,e8`: 28 (R140) -/
  | jr_Z_e8 (e8 : Byte)
  /-- `LD L,d8`: 2E (R60) -/
  | ld_L_d8 (d8 : Byte)
  /-- `JR NC,e8`: 30 (R140) -/
  | jr_NC_e8 (e8 : Byte)
  /-- `LD SP,d16`: 31 (R80) -/
  | ld_SP_d16 (d16 : Word)
  /-- `LD (HL),d8`: 36 (R61) -/
  | ld_mHL_d8 (d8 : Byte)
  /-- `JR C,e8`: 38 (R140) -/
  | jr_C_e8 (e8 : Byte)
  /-- `LD A,d8`: 3E (R60) -/
  | ld_A_d8 (d8 : Byte)
  /-- `JP NZ,a16`: C2 (R137) -/
  | jp_NZ_a16 (a16 : Word)
  /-- `JP a16`: C3 (R136) -/
  | jp_a16 (a16 : Word)
  /-- `CALL NZ,a16`: C4 (R142) -/
  | call_NZ_a16 (a16 : Word)
  /-- `ADD A,d8`: C6 (R91) -/
  | add_A_d8 (d8 : Byte)
  /-- `JP Z,a16`: CA (R137) -/
  | jp_Z_a16 (a16 : Word)
  /-- `CALL Z,a16`: CC (R142) -/
  | call_Z_a16 (a16 : Word)
  /-- `CALL a16`: CD (R141) -/
  | call_a16 (a16 : Word)
  /-- `ADC A,d8`: CE (R92) -/
  | adc_A_d8 (d8 : Byte)
  /-- `JP NC,a16`: D2 (R137) -/
  | jp_NC_a16 (a16 : Word)
  /-- `CALL NC,a16`: D4 (R142) -/
  | call_NC_a16 (a16 : Word)
  /-- `SUB A,d8`: D6 (R93) -/
  | sub_A_d8 (d8 : Byte)
  /-- `JP C,a16`: DA (R137) -/
  | jp_C_a16 (a16 : Word)
  /-- `CALL C,a16`: DC (R142) -/
  | call_C_a16 (a16 : Word)
  /-- `SBC A,d8`: DE (R94) -/
  | sbc_A_d8 (d8 : Byte)
  /-- `LDH (a8),A`: E0 (R73) -/
  | ldh_mA8_A (a8 : Byte)
  /-- `AND A,d8`: E6 (R95) -/
  | and_A_d8 (d8 : Byte)
  /-- `ADD SP,e8`: E8 (R113) -/
  | add_SP_e8 (e8 : Byte)
  /-- `LD (a16),A`: EA (R77) -/
  | ld_mA16_A (a16 : Word)
  /-- `XOR A,d8`: EE (R96) -/
  | xor_A_d8 (d8 : Byte)
  /-- `LDH A,(a8)`: F0 (R74) -/
  | ldh_A_mA8 (a8 : Byte)
  /-- `OR A,d8`: F6 (R97) -/
  | or_A_d8 (d8 : Byte)
  /-- `LD HL,SP+e8`: F8 (R84) -/
  | ld_HL_SPe8 (e8 : Byte)
  /-- `LD A,(a16)`: FA (R78) -/
  | ld_A_mA16 (a16 : Word)
  /-- `CP A,d8`: FE (R98) -/
  | cp_A_d8 (d8 : Byte)
  /-- `NOP`: 00 (R150) -/
  | nop
  /-- `LD (BC),A`: 02 (R65) -/
  | ld_mBC_A
  /-- `INC BC`: 03 (R111) -/
  | inc_BC
  /-- `INC B`: 04 (R99) -/
  | inc_B
  /-- `DEC B`: 05 (R101) -/
  | dec_B
  /-- `RLCA`: 07 (R115) -/
  | rlca
  /-- `ADD HL,BC`: 09 (R110) -/
  | add_HL_BC
  /-- `LD A,(BC)`: 0A (R67) -/
  | ld_A_mBC
  /-- `DEC BC`: 0B (R112) -/
  | dec_BC
  /-- `INC C`: 0C (R99) -/
  | inc_C
  /-- `DEC C`: 0D (R101) -/
  | dec_C
  /-- `RRCA`: 0F (R116) -/
  | rrca
  /-- `STOP`: 10 (R154) -/
  | stop
  /-- `LD (DE),A`: 12 (R66) -/
  | ld_mDE_A
  /-- `INC DE`: 13 (R111) -/
  | inc_DE
  /-- `INC D`: 14 (R99) -/
  | inc_D
  /-- `DEC D`: 15 (R101) -/
  | dec_D
  /-- `RLA`: 17 (R117) -/
  | rla
  /-- `ADD HL,DE`: 19 (R110) -/
  | add_HL_DE
  /-- `LD A,(DE)`: 1A (R68) -/
  | ld_A_mDE
  /-- `DEC DE`: 1B (R112) -/
  | dec_DE
  /-- `INC E`: 1C (R99) -/
  | inc_E
  /-- `DEC E`: 1D (R101) -/
  | dec_E
  /-- `RRA`: 1F (R118) -/
  | rra
  /-- `LD (HL+),A`: 22 (R69) -/
  | ld_mHLinc_A
  /-- `INC HL`: 23 (R111) -/
  | inc_HL
  /-- `INC H`: 24 (R99) -/
  | inc_H
  /-- `DEC H`: 25 (R101) -/
  | dec_H
  /-- `DAA`: 27 (R103) -/
  | daa
  /-- `ADD HL,HL`: 29 (R110) -/
  | add_HL_HL
  /-- `LD A,(HL+)`: 2A (R71) -/
  | ld_A_mHLinc
  /-- `DEC HL`: 2B (R112) -/
  | dec_HL
  /-- `INC L`: 2C (R99) -/
  | inc_L
  /-- `DEC L`: 2D (R101) -/
  | dec_L
  /-- `CPL`: 2F (R104) -/
  | cpl
  /-- `LD (HL-),A`: 32 (R70) -/
  | ld_mHLdec_A
  /-- `INC SP`: 33 (R111) -/
  | inc_SP
  /-- `INC (HL)`: 34 (R100) -/
  | inc_mHL
  /-- `DEC (HL)`: 35 (R102) -/
  | dec_mHL
  /-- `SCF`: 37 (R105) -/
  | scf
  /-- `ADD HL,SP`: 39 (R110) -/
  | add_HL_SP
  /-- `LD A,(HL-)`: 3A (R72) -/
  | ld_A_mHLdec
  /-- `DEC SP`: 3B (R112) -/
  | dec_SP
  /-- `INC A`: 3C (R99) -/
  | inc_A
  /-- `DEC A`: 3D (R101) -/
  | dec_A
  /-- `CCF`: 3F (R106) -/
  | ccf
  /-- `LD B,B`: 40 (R62) -/
  | ld_B_B
  /-- `LD B,C`: 41 (R62) -/
  | ld_B_C
  /-- `LD B,D`: 42 (R62) -/
  | ld_B_D
  /-- `LD B,E`: 43 (R62) -/
  | ld_B_E
  /-- `LD B,H`: 44 (R62) -/
  | ld_B_H
  /-- `LD B,L`: 45 (R62) -/
  | ld_B_L
  /-- `LD B,(HL)`: 46 (R63) -/
  | ld_B_mHL
  /-- `LD B,A`: 47 (R62) -/
  | ld_B_A
  /-- `LD C,B`: 48 (R62) -/
  | ld_C_B
  /-- `LD C,C`: 49 (R62) -/
  | ld_C_C
  /-- `LD C,D`: 4A (R62) -/
  | ld_C_D
  /-- `LD C,E`: 4B (R62) -/
  | ld_C_E
  /-- `LD C,H`: 4C (R62) -/
  | ld_C_H
  /-- `LD C,L`: 4D (R62) -/
  | ld_C_L
  /-- `LD C,(HL)`: 4E (R63) -/
  | ld_C_mHL
  /-- `LD C,A`: 4F (R62) -/
  | ld_C_A
  /-- `LD D,B`: 50 (R62) -/
  | ld_D_B
  /-- `LD D,C`: 51 (R62) -/
  | ld_D_C
  /-- `LD D,D`: 52 (R62) -/
  | ld_D_D
  /-- `LD D,E`: 53 (R62) -/
  | ld_D_E
  /-- `LD D,H`: 54 (R62) -/
  | ld_D_H
  /-- `LD D,L`: 55 (R62) -/
  | ld_D_L
  /-- `LD D,(HL)`: 56 (R63) -/
  | ld_D_mHL
  /-- `LD D,A`: 57 (R62) -/
  | ld_D_A
  /-- `LD E,B`: 58 (R62) -/
  | ld_E_B
  /-- `LD E,C`: 59 (R62) -/
  | ld_E_C
  /-- `LD E,D`: 5A (R62) -/
  | ld_E_D
  /-- `LD E,E`: 5B (R62) -/
  | ld_E_E
  /-- `LD E,H`: 5C (R62) -/
  | ld_E_H
  /-- `LD E,L`: 5D (R62) -/
  | ld_E_L
  /-- `LD E,(HL)`: 5E (R63) -/
  | ld_E_mHL
  /-- `LD E,A`: 5F (R62) -/
  | ld_E_A
  /-- `LD H,B`: 60 (R62) -/
  | ld_H_B
  /-- `LD H,C`: 61 (R62) -/
  | ld_H_C
  /-- `LD H,D`: 62 (R62) -/
  | ld_H_D
  /-- `LD H,E`: 63 (R62) -/
  | ld_H_E
  /-- `LD H,H`: 64 (R62) -/
  | ld_H_H
  /-- `LD H,L`: 65 (R62) -/
  | ld_H_L
  /-- `LD H,(HL)`: 66 (R63) -/
  | ld_H_mHL
  /-- `LD H,A`: 67 (R62) -/
  | ld_H_A
  /-- `LD L,B`: 68 (R62) -/
  | ld_L_B
  /-- `LD L,C`: 69 (R62) -/
  | ld_L_C
  /-- `LD L,D`: 6A (R62) -/
  | ld_L_D
  /-- `LD L,E`: 6B (R62) -/
  | ld_L_E
  /-- `LD L,H`: 6C (R62) -/
  | ld_L_H
  /-- `LD L,L`: 6D (R62) -/
  | ld_L_L
  /-- `LD L,(HL)`: 6E (R63) -/
  | ld_L_mHL
  /-- `LD L,A`: 6F (R62) -/
  | ld_L_A
  /-- `LD (HL),B`: 70 (R64) -/
  | ld_mHL_B
  /-- `LD (HL),C`: 71 (R64) -/
  | ld_mHL_C
  /-- `LD (HL),D`: 72 (R64) -/
  | ld_mHL_D
  /-- `LD (HL),E`: 73 (R64) -/
  | ld_mHL_E
  /-- `LD (HL),H`: 74 (R64) -/
  | ld_mHL_H
  /-- `LD (HL),L`: 75 (R64) -/
  | ld_mHL_L
  /-- `HALT`: 76 (R153) -/
  | halt
  /-- `LD (HL),A`: 77 (R64) -/
  | ld_mHL_A
  /-- `LD A,B`: 78 (R62) -/
  | ld_A_B
  /-- `LD A,C`: 79 (R62) -/
  | ld_A_C
  /-- `LD A,D`: 7A (R62) -/
  | ld_A_D
  /-- `LD A,E`: 7B (R62) -/
  | ld_A_E
  /-- `LD A,H`: 7C (R62) -/
  | ld_A_H
  /-- `LD A,L`: 7D (R62) -/
  | ld_A_L
  /-- `LD A,(HL)`: 7E (R63) -/
  | ld_A_mHL
  /-- `LD A,A`: 7F (R62) -/
  | ld_A_A
  /-- `ADD A,B`: 80 (R91) -/
  | add_A_B
  /-- `ADD A,C`: 81 (R91) -/
  | add_A_C
  /-- `ADD A,D`: 82 (R91) -/
  | add_A_D
  /-- `ADD A,E`: 83 (R91) -/
  | add_A_E
  /-- `ADD A,H`: 84 (R91) -/
  | add_A_H
  /-- `ADD A,L`: 85 (R91) -/
  | add_A_L
  /-- `ADD A,(HL)`: 86 (R91) -/
  | add_A_mHL
  /-- `ADD A,A`: 87 (R91) -/
  | add_A_A
  /-- `ADC A,B`: 88 (R92) -/
  | adc_A_B
  /-- `ADC A,C`: 89 (R92) -/
  | adc_A_C
  /-- `ADC A,D`: 8A (R92) -/
  | adc_A_D
  /-- `ADC A,E`: 8B (R92) -/
  | adc_A_E
  /-- `ADC A,H`: 8C (R92) -/
  | adc_A_H
  /-- `ADC A,L`: 8D (R92) -/
  | adc_A_L
  /-- `ADC A,(HL)`: 8E (R92) -/
  | adc_A_mHL
  /-- `ADC A,A`: 8F (R92) -/
  | adc_A_A
  /-- `SUB A,B`: 90 (R93) -/
  | sub_A_B
  /-- `SUB A,C`: 91 (R93) -/
  | sub_A_C
  /-- `SUB A,D`: 92 (R93) -/
  | sub_A_D
  /-- `SUB A,E`: 93 (R93) -/
  | sub_A_E
  /-- `SUB A,H`: 94 (R93) -/
  | sub_A_H
  /-- `SUB A,L`: 95 (R93) -/
  | sub_A_L
  /-- `SUB A,(HL)`: 96 (R93) -/
  | sub_A_mHL
  /-- `SUB A,A`: 97 (R93) -/
  | sub_A_A
  /-- `SBC A,B`: 98 (R94) -/
  | sbc_A_B
  /-- `SBC A,C`: 99 (R94) -/
  | sbc_A_C
  /-- `SBC A,D`: 9A (R94) -/
  | sbc_A_D
  /-- `SBC A,E`: 9B (R94) -/
  | sbc_A_E
  /-- `SBC A,H`: 9C (R94) -/
  | sbc_A_H
  /-- `SBC A,L`: 9D (R94) -/
  | sbc_A_L
  /-- `SBC A,(HL)`: 9E (R94) -/
  | sbc_A_mHL
  /-- `SBC A,A`: 9F (R94) -/
  | sbc_A_A
  /-- `AND A,B`: A0 (R95) -/
  | and_A_B
  /-- `AND A,C`: A1 (R95) -/
  | and_A_C
  /-- `AND A,D`: A2 (R95) -/
  | and_A_D
  /-- `AND A,E`: A3 (R95) -/
  | and_A_E
  /-- `AND A,H`: A4 (R95) -/
  | and_A_H
  /-- `AND A,L`: A5 (R95) -/
  | and_A_L
  /-- `AND A,(HL)`: A6 (R95) -/
  | and_A_mHL
  /-- `AND A,A`: A7 (R95) -/
  | and_A_A
  /-- `XOR A,B`: A8 (R96) -/
  | xor_A_B
  /-- `XOR A,C`: A9 (R96) -/
  | xor_A_C
  /-- `XOR A,D`: AA (R96) -/
  | xor_A_D
  /-- `XOR A,E`: AB (R96) -/
  | xor_A_E
  /-- `XOR A,H`: AC (R96) -/
  | xor_A_H
  /-- `XOR A,L`: AD (R96) -/
  | xor_A_L
  /-- `XOR A,(HL)`: AE (R96) -/
  | xor_A_mHL
  /-- `XOR A,A`: AF (R96) -/
  | xor_A_A
  /-- `OR A,B`: B0 (R97) -/
  | or_A_B
  /-- `OR A,C`: B1 (R97) -/
  | or_A_C
  /-- `OR A,D`: B2 (R97) -/
  | or_A_D
  /-- `OR A,E`: B3 (R97) -/
  | or_A_E
  /-- `OR A,H`: B4 (R97) -/
  | or_A_H
  /-- `OR A,L`: B5 (R97) -/
  | or_A_L
  /-- `OR A,(HL)`: B6 (R97) -/
  | or_A_mHL
  /-- `OR A,A`: B7 (R97) -/
  | or_A_A
  /-- `CP A,B`: B8 (R98) -/
  | cp_A_B
  /-- `CP A,C`: B9 (R98) -/
  | cp_A_C
  /-- `CP A,D`: BA (R98) -/
  | cp_A_D
  /-- `CP A,E`: BB (R98) -/
  | cp_A_E
  /-- `CP A,H`: BC (R98) -/
  | cp_A_H
  /-- `CP A,L`: BD (R98) -/
  | cp_A_L
  /-- `CP A,(HL)`: BE (R98) -/
  | cp_A_mHL
  /-- `CP A,A`: BF (R98) -/
  | cp_A_A
  /-- `RET NZ`: C0 (R144) -/
  | ret_NZ
  /-- `POP BC`: C1 (R83) -/
  | pop_BC
  /-- `PUSH BC`: C5 (R82) -/
  | push_BC
  /-- `RST 0x00`: C7 (R146) -/
  | rst_00
  /-- `RET Z`: C8 (R144) -/
  | ret_Z
  /-- `RET`: C9 (R143) -/
  | ret
  /-- `RST 0x08`: CF (R146) -/
  | rst_08
  /-- `RET NC`: D0 (R144) -/
  | ret_NC
  /-- `POP DE`: D1 (R83) -/
  | pop_DE
  /-- `UNDEF_D3`: D3 (R155) -/
  | undef_D3
  /-- `PUSH DE`: D5 (R82) -/
  | push_DE
  /-- `RST 0x10`: D7 (R146) -/
  | rst_10
  /-- `RET C`: D8 (R144) -/
  | ret_C
  /-- `RETI`: D9 (R145) -/
  | reti
  /-- `UNDEF_DB`: DB (R155) -/
  | undef_DB
  /-- `UNDEF_DD`: DD (R155) -/
  | undef_DD
  /-- `RST 0x18`: DF (R146) -/
  | rst_18
  /-- `POP HL`: E1 (R83) -/
  | pop_HL
  /-- `LD (C),A`: E2 (R75) -/
  | ld_mC_A
  /-- `UNDEF_E3`: E3 (R155) -/
  | undef_E3
  /-- `UNDEF_E4`: E4 (R155) -/
  | undef_E4
  /-- `PUSH HL`: E5 (R82) -/
  | push_HL
  /-- `RST 0x20`: E7 (R146) -/
  | rst_20
  /-- `JP HL`: E9 (R138) -/
  | jp_HL
  /-- `UNDEF_EB`: EB (R155) -/
  | undef_EB
  /-- `UNDEF_EC`: EC (R155) -/
  | undef_EC
  /-- `UNDEF_ED`: ED (R155) -/
  | undef_ED
  /-- `RST 0x28`: EF (R146) -/
  | rst_28
  /-- `POP AF`: F1 (R83) -/
  | pop_AF
  /-- `LD A,(C)`: F2 (R76) -/
  | ld_A_mC
  /-- `DI`: F3 (R151) -/
  | di
  /-- `UNDEF_F4`: F4 (R155) -/
  | undef_F4
  /-- `PUSH AF`: F5 (R82) -/
  | push_AF
  /-- `RST 0x30`: F7 (R146) -/
  | rst_30
  /-- `LD SP,HL`: F9 (R85) -/
  | ld_SP_HL
  /-- `EI`: FB (R152) -/
  | ei
  /-- `UNDEF_FC`: FC (R155) -/
  | undef_FC
  /-- `UNDEF_FD`: FD (R155) -/
  | undef_FD
  /-- `RST 0x38`: FF (R146) -/
  | rst_38
  /-- `RLC B`: CB 00 (R120) -/
  | rlc_B
  /-- `RLC C`: CB 01 (R120) -/
  | rlc_C
  /-- `RLC D`: CB 02 (R120) -/
  | rlc_D
  /-- `RLC E`: CB 03 (R120) -/
  | rlc_E
  /-- `RLC H`: CB 04 (R120) -/
  | rlc_H
  /-- `RLC L`: CB 05 (R120) -/
  | rlc_L
  /-- `RLC (HL)`: CB 06 (R120) -/
  | rlc_mHL
  /-- `RLC A`: CB 07 (R120) -/
  | rlc_A
  /-- `RRC B`: CB 08 (R121) -/
  | rrc_B
  /-- `RRC C`: CB 09 (R121) -/
  | rrc_C
  /-- `RRC D`: CB 0A (R121) -/
  | rrc_D
  /-- `RRC E`: CB 0B (R121) -/
  | rrc_E
  /-- `RRC H`: CB 0C (R121) -/
  | rrc_H
  /-- `RRC L`: CB 0D (R121) -/
  | rrc_L
  /-- `RRC (HL)`: CB 0E (R121) -/
  | rrc_mHL
  /-- `RRC A`: CB 0F (R121) -/
  | rrc_A
  /-- `RL B`: CB 10 (R122) -/
  | rl_B
  /-- `RL C`: CB 11 (R122) -/
  | rl_C
  /-- `RL D`: CB 12 (R122) -/
  | rl_D
  /-- `RL E`: CB 13 (R122) -/
  | rl_E
  /-- `RL H`: CB 14 (R122) -/
  | rl_H
  /-- `RL L`: CB 15 (R122) -/
  | rl_L
  /-- `RL (HL)`: CB 16 (R122) -/
  | rl_mHL
  /-- `RL A`: CB 17 (R122) -/
  | rl_A
  /-- `RR B`: CB 18 (R123) -/
  | rr_B
  /-- `RR C`: CB 19 (R123) -/
  | rr_C
  /-- `RR D`: CB 1A (R123) -/
  | rr_D
  /-- `RR E`: CB 1B (R123) -/
  | rr_E
  /-- `RR H`: CB 1C (R123) -/
  | rr_H
  /-- `RR L`: CB 1D (R123) -/
  | rr_L
  /-- `RR (HL)`: CB 1E (R123) -/
  | rr_mHL
  /-- `RR A`: CB 1F (R123) -/
  | rr_A
  /-- `SLA B`: CB 20 (R124) -/
  | sla_B
  /-- `SLA C`: CB 21 (R124) -/
  | sla_C
  /-- `SLA D`: CB 22 (R124) -/
  | sla_D
  /-- `SLA E`: CB 23 (R124) -/
  | sla_E
  /-- `SLA H`: CB 24 (R124) -/
  | sla_H
  /-- `SLA L`: CB 25 (R124) -/
  | sla_L
  /-- `SLA (HL)`: CB 26 (R124) -/
  | sla_mHL
  /-- `SLA A`: CB 27 (R124) -/
  | sla_A
  /-- `SRA B`: CB 28 (R125) -/
  | sra_B
  /-- `SRA C`: CB 29 (R125) -/
  | sra_C
  /-- `SRA D`: CB 2A (R125) -/
  | sra_D
  /-- `SRA E`: CB 2B (R125) -/
  | sra_E
  /-- `SRA H`: CB 2C (R125) -/
  | sra_H
  /-- `SRA L`: CB 2D (R125) -/
  | sra_L
  /-- `SRA (HL)`: CB 2E (R125) -/
  | sra_mHL
  /-- `SRA A`: CB 2F (R125) -/
  | sra_A
  /-- `SWAP B`: CB 30 (R126) -/
  | swap_B
  /-- `SWAP C`: CB 31 (R126) -/
  | swap_C
  /-- `SWAP D`: CB 32 (R126) -/
  | swap_D
  /-- `SWAP E`: CB 33 (R126) -/
  | swap_E
  /-- `SWAP H`: CB 34 (R126) -/
  | swap_H
  /-- `SWAP L`: CB 35 (R126) -/
  | swap_L
  /-- `SWAP (HL)`: CB 36 (R126) -/
  | swap_mHL
  /-- `SWAP A`: CB 37 (R126) -/
  | swap_A
  /-- `SRL B`: CB 38 (R127) -/
  | srl_B
  /-- `SRL C`: CB 39 (R127) -/
  | srl_C
  /-- `SRL D`: CB 3A (R127) -/
  | srl_D
  /-- `SRL E`: CB 3B (R127) -/
  | srl_E
  /-- `SRL H`: CB 3C (R127) -/
  | srl_H
  /-- `SRL L`: CB 3D (R127) -/
  | srl_L
  /-- `SRL (HL)`: CB 3E (R127) -/
  | srl_mHL
  /-- `SRL A`: CB 3F (R127) -/
  | srl_A
  /-- `BIT 0,B`: CB 40 (R128) -/
  | bit_0_B
  /-- `BIT 0,C`: CB 41 (R128) -/
  | bit_0_C
  /-- `BIT 0,D`: CB 42 (R128) -/
  | bit_0_D
  /-- `BIT 0,E`: CB 43 (R128) -/
  | bit_0_E
  /-- `BIT 0,H`: CB 44 (R128) -/
  | bit_0_H
  /-- `BIT 0,L`: CB 45 (R128) -/
  | bit_0_L
  /-- `BIT 0,(HL)`: CB 46 (R128) -/
  | bit_0_mHL
  /-- `BIT 0,A`: CB 47 (R128) -/
  | bit_0_A
  /-- `BIT 1,B`: CB 48 (R128) -/
  | bit_1_B
  /-- `BIT 1,C`: CB 49 (R128) -/
  | bit_1_C
  /-- `BIT 1,D`: CB 4A (R128) -/
  | bit_1_D
  /-- `BIT 1,E`: CB 4B (R128) -/
  | bit_1_E
  /-- `BIT 1,H`: CB 4C (R128) -/
  | bit_1_H
  /-- `BIT 1,L`: CB 4D (R128) -/
  | bit_1_L
  /-- `BIT 1,(HL)`: CB 4E (R128) -/
  | bit_1_mHL
  /-- `BIT 1,A`: CB 4F (R128) -/
  | bit_1_A
  /-- `BIT 2,B`: CB 50 (R128) -/
  | bit_2_B
  /-- `BIT 2,C`: CB 51 (R128) -/
  | bit_2_C
  /-- `BIT 2,D`: CB 52 (R128) -/
  | bit_2_D
  /-- `BIT 2,E`: CB 53 (R128) -/
  | bit_2_E
  /-- `BIT 2,H`: CB 54 (R128) -/
  | bit_2_H
  /-- `BIT 2,L`: CB 55 (R128) -/
  | bit_2_L
  /-- `BIT 2,(HL)`: CB 56 (R128) -/
  | bit_2_mHL
  /-- `BIT 2,A`: CB 57 (R128) -/
  | bit_2_A
  /-- `BIT 3,B`: CB 58 (R128) -/
  | bit_3_B
  /-- `BIT 3,C`: CB 59 (R128) -/
  | bit_3_C
  /-- `BIT 3,D`: CB 5A (R128) -/
  | bit_3_D
  /-- `BIT 3,E`: CB 5B (R128) -/
  | bit_3_E
  /-- `BIT 3,H`: CB 5C (R128) -/
  | bit_3_H
  /-- `BIT 3,L`: CB 5D (R128) -/
  | bit_3_L
  /-- `BIT 3,(HL)`: CB 5E (R128) -/
  | bit_3_mHL
  /-- `BIT 3,A`: CB 5F (R128) -/
  | bit_3_A
  /-- `BIT 4,B`: CB 60 (R128) -/
  | bit_4_B
  /-- `BIT 4,C`: CB 61 (R128) -/
  | bit_4_C
  /-- `BIT 4,D`: CB 62 (R128) -/
  | bit_4_D
  /-- `BIT 4,E`: CB 63 (R128) -/
  | bit_4_E
  /-- `BIT 4,H`: CB 64 (R128) -/
  | bit_4_H
  /-- `BIT 4,L`: CB 65 (R128) -/
  | bit_4_L
  /-- `BIT 4,(HL)`: CB 66 (R128) -/
  | bit_4_mHL
  /-- `BIT 4,A`: CB 67 (R128) -/
  | bit_4_A
  /-- `BIT 5,B`: CB 68 (R128) -/
  | bit_5_B
  /-- `BIT 5,C`: CB 69 (R128) -/
  | bit_5_C
  /-- `BIT 5,D`: CB 6A (R128) -/
  | bit_5_D
  /-- `BIT 5,E`: CB 6B (R128) -/
  | bit_5_E
  /-- `BIT 5,H`: CB 6C (R128) -/
  | bit_5_H
  /-- `BIT 5,L`: CB 6D (R128) -/
  | bit_5_L
  /-- `BIT 5,(HL)`: CB 6E (R128) -/
  | bit_5_mHL
  /-- `BIT 5,A`: CB 6F (R128) -/
  | bit_5_A
  /-- `BIT 6,B`: CB 70 (R128) -/
  | bit_6_B
  /-- `BIT 6,C`: CB 71 (R128) -/
  | bit_6_C
  /-- `BIT 6,D`: CB 72 (R128) -/
  | bit_6_D
  /-- `BIT 6,E`: CB 73 (R128) -/
  | bit_6_E
  /-- `BIT 6,H`: CB 74 (R128) -/
  | bit_6_H
  /-- `BIT 6,L`: CB 75 (R128) -/
  | bit_6_L
  /-- `BIT 6,(HL)`: CB 76 (R128) -/
  | bit_6_mHL
  /-- `BIT 6,A`: CB 77 (R128) -/
  | bit_6_A
  /-- `BIT 7,B`: CB 78 (R128) -/
  | bit_7_B
  /-- `BIT 7,C`: CB 79 (R128) -/
  | bit_7_C
  /-- `BIT 7,D`: CB 7A (R128) -/
  | bit_7_D
  /-- `BIT 7,E`: CB 7B (R128) -/
  | bit_7_E
  /-- `BIT 7,H`: CB 7C (R128) -/
  | bit_7_H
  /-- `BIT 7,L`: CB 7D (R128) -/
  | bit_7_L
  /-- `BIT 7,(HL)`: CB 7E (R128) -/
  | bit_7_mHL
  /-- `BIT 7,A`: CB 7F (R128) -/
  | bit_7_A
  /-- `RES 0,B`: CB 80 (R129) -/
  | res_0_B
  /-- `RES 0,C`: CB 81 (R129) -/
  | res_0_C
  /-- `RES 0,D`: CB 82 (R129) -/
  | res_0_D
  /-- `RES 0,E`: CB 83 (R129) -/
  | res_0_E
  /-- `RES 0,H`: CB 84 (R129) -/
  | res_0_H
  /-- `RES 0,L`: CB 85 (R129) -/
  | res_0_L
  /-- `RES 0,(HL)`: CB 86 (R129) -/
  | res_0_mHL
  /-- `RES 0,A`: CB 87 (R129) -/
  | res_0_A
  /-- `RES 1,B`: CB 88 (R129) -/
  | res_1_B
  /-- `RES 1,C`: CB 89 (R129) -/
  | res_1_C
  /-- `RES 1,D`: CB 8A (R129) -/
  | res_1_D
  /-- `RES 1,E`: CB 8B (R129) -/
  | res_1_E
  /-- `RES 1,H`: CB 8C (R129) -/
  | res_1_H
  /-- `RES 1,L`: CB 8D (R129) -/
  | res_1_L
  /-- `RES 1,(HL)`: CB 8E (R129) -/
  | res_1_mHL
  /-- `RES 1,A`: CB 8F (R129) -/
  | res_1_A
  /-- `RES 2,B`: CB 90 (R129) -/
  | res_2_B
  /-- `RES 2,C`: CB 91 (R129) -/
  | res_2_C
  /-- `RES 2,D`: CB 92 (R129) -/
  | res_2_D
  /-- `RES 2,E`: CB 93 (R129) -/
  | res_2_E
  /-- `RES 2,H`: CB 94 (R129) -/
  | res_2_H
  /-- `RES 2,L`: CB 95 (R129) -/
  | res_2_L
  /-- `RES 2,(HL)`: CB 96 (R129) -/
  | res_2_mHL
  /-- `RES 2,A`: CB 97 (R129) -/
  | res_2_A
  /-- `RES 3,B`: CB 98 (R129) -/
  | res_3_B
  /-- `RES 3,C`: CB 99 (R129) -/
  | res_3_C
  /-- `RES 3,D`: CB 9A (R129) -/
  | res_3_D
  /-- `RES 3,E`: CB 9B (R129) -/
  | res_3_E
  /-- `RES 3,H`: CB 9C (R129) -/
  | res_3_H
  /-- `RES 3,L`: CB 9D (R129) -/
  | res_3_L
  /-- `RES 3,(HL)`: CB 9E (R129) -/
  | res_3_mHL
  /-- `RES 3,A`: CB 9F (R129) -/
  | res_3_A
  /-- `RES 4,B`: CB A0 (R129) -/
  | res_4_B
  /-- `RES 4,C`: CB A1 (R129) -/
  | res_4_C
  /-- `RES 4,D`: CB A2 (R129) -/
  | res_4_D
  /-- `RES 4,E`: CB A3 (R129) -/
  | res_4_E
  /-- `RES 4,H`: CB A4 (R129) -/
  | res_4_H
  /-- `RES 4,L`: CB A5 (R129) -/
  | res_4_L
  /-- `RES 4,(HL)`: CB A6 (R129) -/
  | res_4_mHL
  /-- `RES 4,A`: CB A7 (R129) -/
  | res_4_A
  /-- `RES 5,B`: CB A8 (R129) -/
  | res_5_B
  /-- `RES 5,C`: CB A9 (R129) -/
  | res_5_C
  /-- `RES 5,D`: CB AA (R129) -/
  | res_5_D
  /-- `RES 5,E`: CB AB (R129) -/
  | res_5_E
  /-- `RES 5,H`: CB AC (R129) -/
  | res_5_H
  /-- `RES 5,L`: CB AD (R129) -/
  | res_5_L
  /-- `RES 5,(HL)`: CB AE (R129) -/
  | res_5_mHL
  /-- `RES 5,A`: CB AF (R129) -/
  | res_5_A
  /-- `RES 6,B`: CB B0 (R129) -/
  | res_6_B
  /-- `RES 6,C`: CB B1 (R129) -/
  | res_6_C
  /-- `RES 6,D`: CB B2 (R129) -/
  | res_6_D
  /-- `RES 6,E`: CB B3 (R129) -/
  | res_6_E
  /-- `RES 6,H`: CB B4 (R129) -/
  | res_6_H
  /-- `RES 6,L`: CB B5 (R129) -/
  | res_6_L
  /-- `RES 6,(HL)`: CB B6 (R129) -/
  | res_6_mHL
  /-- `RES 6,A`: CB B7 (R129) -/
  | res_6_A
  /-- `RES 7,B`: CB B8 (R129) -/
  | res_7_B
  /-- `RES 7,C`: CB B9 (R129) -/
  | res_7_C
  /-- `RES 7,D`: CB BA (R129) -/
  | res_7_D
  /-- `RES 7,E`: CB BB (R129) -/
  | res_7_E
  /-- `RES 7,H`: CB BC (R129) -/
  | res_7_H
  /-- `RES 7,L`: CB BD (R129) -/
  | res_7_L
  /-- `RES 7,(HL)`: CB BE (R129) -/
  | res_7_mHL
  /-- `RES 7,A`: CB BF (R129) -/
  | res_7_A
  /-- `SET 0,B`: CB C0 (R130) -/
  | set_0_B
  /-- `SET 0,C`: CB C1 (R130) -/
  | set_0_C
  /-- `SET 0,D`: CB C2 (R130) -/
  | set_0_D
  /-- `SET 0,E`: CB C3 (R130) -/
  | set_0_E
  /-- `SET 0,H`: CB C4 (R130) -/
  | set_0_H
  /-- `SET 0,L`: CB C5 (R130) -/
  | set_0_L
  /-- `SET 0,(HL)`: CB C6 (R130) -/
  | set_0_mHL
  /-- `SET 0,A`: CB C7 (R130) -/
  | set_0_A
  /-- `SET 1,B`: CB C8 (R130) -/
  | set_1_B
  /-- `SET 1,C`: CB C9 (R130) -/
  | set_1_C
  /-- `SET 1,D`: CB CA (R130) -/
  | set_1_D
  /-- `SET 1,E`: CB CB (R130) -/
  | set_1_E
  /-- `SET 1,H`: CB CC (R130) -/
  | set_1_H
  /-- `SET 1,L`: CB CD (R130) -/
  | set_1_L
  /-- `SET 1,(HL)`: CB CE (R130) -/
  | set_1_mHL
  /-- `SET 1,A`: CB CF (R130) -/
  | set_1_A
  /-- `SET 2,B`: CB D0 (R130) -/
  | set_2_B
  /-- `SET 2,C`: CB D1 (R130) -/
  | set_2_C
  /-- `SET 2,D`: CB D2 (R130) -/
  | set_2_D
  /-- `SET 2,E`: CB D3 (R130) -/
  | set_2_E
  /-- `SET 2,H`: CB D4 (R130) -/
  | set_2_H
  /-- `SET 2,L`: CB D5 (R130) -/
  | set_2_L
  /-- `SET 2,(HL)`: CB D6 (R130) -/
  | set_2_mHL
  /-- `SET 2,A`: CB D7 (R130) -/
  | set_2_A
  /-- `SET 3,B`: CB D8 (R130) -/
  | set_3_B
  /-- `SET 3,C`: CB D9 (R130) -/
  | set_3_C
  /-- `SET 3,D`: CB DA (R130) -/
  | set_3_D
  /-- `SET 3,E`: CB DB (R130) -/
  | set_3_E
  /-- `SET 3,H`: CB DC (R130) -/
  | set_3_H
  /-- `SET 3,L`: CB DD (R130) -/
  | set_3_L
  /-- `SET 3,(HL)`: CB DE (R130) -/
  | set_3_mHL
  /-- `SET 3,A`: CB DF (R130) -/
  | set_3_A
  /-- `SET 4,B`: CB E0 (R130) -/
  | set_4_B
  /-- `SET 4,C`: CB E1 (R130) -/
  | set_4_C
  /-- `SET 4,D`: CB E2 (R130) -/
  | set_4_D
  /-- `SET 4,E`: CB E3 (R130) -/
  | set_4_E
  /-- `SET 4,H`: CB E4 (R130) -/
  | set_4_H
  /-- `SET 4,L`: CB E5 (R130) -/
  | set_4_L
  /-- `SET 4,(HL)`: CB E6 (R130) -/
  | set_4_mHL
  /-- `SET 4,A`: CB E7 (R130) -/
  | set_4_A
  /-- `SET 5,B`: CB E8 (R130) -/
  | set_5_B
  /-- `SET 5,C`: CB E9 (R130) -/
  | set_5_C
  /-- `SET 5,D`: CB EA (R130) -/
  | set_5_D
  /-- `SET 5,E`: CB EB (R130) -/
  | set_5_E
  /-- `SET 5,H`: CB EC (R130) -/
  | set_5_H
  /-- `SET 5,L`: CB ED (R130) -/
  | set_5_L
  /-- `SET 5,(HL)`: CB EE (R130) -/
  | set_5_mHL
  /-- `SET 5,A`: CB EF (R130) -/
  | set_5_A
  /-- `SET 6,B`: CB F0 (R130) -/
  | set_6_B
  /-- `SET 6,C`: CB F1 (R130) -/
  | set_6_C
  /-- `SET 6,D`: CB F2 (R130) -/
  | set_6_D
  /-- `SET 6,E`: CB F3 (R130) -/
  | set_6_E
  /-- `SET 6,H`: CB F4 (R130) -/
  | set_6_H
  /-- `SET 6,L`: CB F5 (R130) -/
  | set_6_L
  /-- `SET 6,(HL)`: CB F6 (R130) -/
  | set_6_mHL
  /-- `SET 6,A`: CB F7 (R130) -/
  | set_6_A
  /-- `SET 7,B`: CB F8 (R130) -/
  | set_7_B
  /-- `SET 7,C`: CB F9 (R130) -/
  | set_7_C
  /-- `SET 7,D`: CB FA (R130) -/
  | set_7_D
  /-- `SET 7,E`: CB FB (R130) -/
  | set_7_E
  /-- `SET 7,H`: CB FC (R130) -/
  | set_7_H
  /-- `SET 7,L`: CB FD (R130) -/
  | set_7_L
  /-- `SET 7,(HL)`: CB FE (R130) -/
  | set_7_mHL
  /-- `SET 7,A`: CB FF (R130) -/
  | set_7_A
deriving DecidableEq, Repr

end Sys2Proof
end

