-- ==== Sys2Proof/Decode.lean ====
section
/-! DEFINITION. From bytes to instructions and back. The decoder reads the fields x, y, z, p, q of the
opcode byte (`30_encoding.md` R46) and follows the table by fields of R48 and R49; the encoder, after
it, is written row by row from the byte maps of R48 and R49. Decoding is total on any bytes: every
complete instruction decodes, and what is cut short is rejected by name. The bit-field, byte-order and
sign-extension helpers that the machine shares stand first. -/

namespace Sys2Proof

/-! ### Byte order and sign extension -/

/-- `{hi, lo}`: "the 16-bit value hi8 * 256 + lo8" (`00_scope.md` 6.1). -/
def joinBytes (hi lo : Byte) : Word := BitVec.ofNat 16 (hi.toNat * 256 + lo.toNat)

/-- `v[15:8]` -/
def hiByte (v : Word) : Byte := v.extractLsb' 8 8

/-- `v[7:0]` -/
def loByte (v : Word) : Byte := v.extractLsb' 0 8

/-- `sext_16(e)`: the top bit of the byte is its sign (`00_scope.md` 6.1, R47). -/
def sext16 (e : Byte) : Word := e.signExtend 16

/-! ### The fields of an opcode byte (R46) -/

/-- x = b[7:6] -/
def fieldX (b : Byte) : Nat := b.toNat / 64

/-- y = b[5:3] -/
def fieldY (b : Byte) : Nat := b.toNat / 8 % 8

/-- z = b[2:0] -/
def fieldZ (b : Byte) : Nat := b.toNat % 8

/-- p = b[5:4] -/
def fieldP (b : Byte) : Nat := b.toNat / 16 % 4

/-- q = b[3] -/
def fieldQ (b : Byte) : Nat := b.toNat / 8 % 2

/-- y as an index into eight things. -/
def fieldY8 (b : Byte) : Fin 8 := Fin.ofNat 8 (fieldY b)

/-! ### The selector tables (`10_state.md` R23) -/

/-- The table `x[i]`; index 6 is the memory byte at HL. -/
def Opnd.ofIndex : Nat → Opnd
  | 0 => .reg .B
  | 1 => .reg .C
  | 2 => .reg .D
  | 3 => .reg .E
  | 4 => .reg .H
  | 5 => .reg .L
  | 6 => .mHL
  | _ => .reg .A

/-- The table `xp[p]`. -/
def RP.ofIndex : Nat → RP
  | 0 => .BC
  | 1 => .DE
  | 2 => .HL
  | _ => .SP

/-- The table `xq[p]`. -/
def RQ.ofIndex : Nat → RQ
  | 0 => .BC
  | 1 => .DE
  | 2 => .HL
  | _ => .AF

/-- The table `Cond(c)`. -/
def Cond.ofIndex : Nat → Cond
  | 0 => .NZ
  | 1 => .Z
  | 2 => .NC
  | _ => .C

/-- The accumulator operation of a field o (`42_alu8.md` R90). -/
def AluOp.ofIndex : Nat → AluOp
  | 0 => .add
  | 1 => .adc
  | 2 => .sub
  | 3 => .sbc
  | 4 => .and
  | 5 => .xor
  | 6 => .or
  | _ => .cp

/-- The rotate or shift of a field y (R49). -/
def RotOp.ofIndex : Nat → RotOp
  | 0 => .rlc
  | 1 => .rrc
  | 2 => .rl
  | 3 => .rr
  | 4 => .sla
  | 5 => .sra
  | 6 => .swap
  | _ => .srl

/-! The index of each selector, as an encoding writes it (R23). -/

def R8.index : R8 → Nat
  | .B => 0
  | .C => 1
  | .D => 2
  | .E => 3
  | .H => 4
  | .L => 5
  | .A => 7

def Opnd.index : Opnd → Nat
  | .reg r => r.index
  | .mHL => 6

def RP.index : RP → Nat
  | .BC => 0
  | .DE => 1
  | .HL => 2
  | .SP => 3

def RQ.index : RQ → Nat
  | .BC => 0
  | .DE => 1
  | .HL => 2
  | .AF => 3

def Cond.index : Cond → Nat
  | .NZ => 0
  | .Z => 1
  | .NC => 2
  | .C => 3

def AluOp.index : AluOp → Nat
  | .add => 0
  | .adc => 1
  | .sub => 2
  | .sbc => 3
  | .and => 4
  | .xor => 5
  | .or => 6
  | .cp => 7

def RotOp.index : RotOp → Nat
  | .rlc => 0
  | .rrc => 1
  | .rl => 2
  | .rr => 3
  | .sla => 4
  | .sra => 5
  | .swap => 6
  | .srl => 7

/-! ### The forms: which row of the table a generic form with given selectors is -/

/-- `LD r,d8` (R60) -/
def Instr.ldRD8 : R8 → Byte → Instr
  | .B, v => .ld_B_d8 v
  | .C, v => .ld_C_d8 v
  | .D, v => .ld_D_d8 v
  | .E, v => .ld_E_d8 v
  | .H, v => .ld_H_d8 v
  | .L, v => .ld_L_d8 v
  | .A, v => .ld_A_d8 v

/-- `LD r,r'` (R62): destination, source -/
def Instr.ldRR : R8 → R8 → Instr
  | .B, .B => .ld_B_B
  | .B, .C => .ld_B_C
  | .B, .D => .ld_B_D
  | .B, .E => .ld_B_E
  | .B, .H => .ld_B_H
  | .B, .L => .ld_B_L
  | .B, .A => .ld_B_A
  | .C, .B => .ld_C_B
  | .C, .C => .ld_C_C
  | .C, .D => .ld_C_D
  | .C, .E => .ld_C_E
  | .C, .H => .ld_C_H
  | .C, .L => .ld_C_L
  | .C, .A => .ld_C_A
  | .D, .B => .ld_D_B
  | .D, .C => .ld_D_C
  | .D, .D => .ld_D_D
  | .D, .E => .ld_D_E
  | .D, .H => .ld_D_H
  | .D, .L => .ld_D_L
  | .D, .A => .ld_D_A
  | .E, .B => .ld_E_B
  | .E, .C => .ld_E_C
  | .E, .D => .ld_E_D
  | .E, .E => .ld_E_E
  | .E, .H => .ld_E_H
  | .E, .L => .ld_E_L
  | .E, .A => .ld_E_A
  | .H, .B => .ld_H_B
  | .H, .C => .ld_H_C
  | .H, .D => .ld_H_D
  | .H, .E => .ld_H_E
  | .H, .H => .ld_H_H
  | .H, .L => .ld_H_L
  | .H, .A => .ld_H_A
  | .L, .B => .ld_L_B
  | .L, .C => .ld_L_C
  | .L, .D => .ld_L_D
  | .L, .E => .ld_L_E
  | .L, .H => .ld_L_H
  | .L, .L => .ld_L_L
  | .L, .A => .ld_L_A
  | .A, .B => .ld_A_B
  | .A, .C => .ld_A_C
  | .A, .D => .ld_A_D
  | .A, .E => .ld_A_E
  | .A, .H => .ld_A_H
  | .A, .L => .ld_A_L
  | .A, .A => .ld_A_A

/-- `LD r,(HL)` (R63) -/
def Instr.ldRM : R8 → Instr
  | .B => .ld_B_mHL
  | .C => .ld_C_mHL
  | .D => .ld_D_mHL
  | .E => .ld_E_mHL
  | .H => .ld_H_mHL
  | .L => .ld_L_mHL
  | .A => .ld_A_mHL

/-- `LD (HL),r` (R64) -/
def Instr.ldMR : R8 → Instr
  | .B => .ld_mHL_B
  | .C => .ld_mHL_C
  | .D => .ld_mHL_D
  | .E => .ld_mHL_E
  | .H => .ld_mHL_H
  | .L => .ld_mHL_L
  | .A => .ld_mHL_A

/-- `LD rp,d16` (R80) -/
def Instr.ldRpD16 : RP → Word → Instr
  | .BC, v => .ld_BC_d16 v
  | .DE, v => .ld_DE_d16 v
  | .HL, v => .ld_HL_d16 v
  | .SP, v => .ld_SP_d16 v

/-- `PUSH rq` (R82) -/
def Instr.push : RQ → Instr
  | .BC => .push_BC
  | .DE => .push_DE
  | .HL => .push_HL
  | .AF => .push_AF

/-- `POP rq` (R83) -/
def Instr.pop : RQ → Instr
  | .BC => .pop_BC
  | .DE => .pop_DE
  | .HL => .pop_HL
  | .AF => .pop_AF

/-- `ADD HL,rp` (R110) -/
def Instr.addHL : RP → Instr
  | .BC => .add_HL_BC
  | .DE => .add_HL_DE
  | .HL => .add_HL_HL
  | .SP => .add_HL_SP

/-- `INC rp` (R111) -/
def Instr.incRp : RP → Instr
  | .BC => .inc_BC
  | .DE => .inc_DE
  | .HL => .inc_HL
  | .SP => .inc_SP

/-- `DEC rp` (R112) -/
def Instr.decRp : RP → Instr
  | .BC => .dec_BC
  | .DE => .dec_DE
  | .HL => .dec_HL
  | .SP => .dec_SP

/-- `INC r` and `INC (HL)` (R99, R100) -/
def Instr.inc : Opnd → Instr
  | .reg .B => .inc_B
  | .reg .C => .inc_C
  | .reg .D => .inc_D
  | .reg .E => .inc_E
  | .reg .H => .inc_H
  | .reg .L => .inc_L
  | .mHL => .inc_mHL
  | .reg .A => .inc_A

/-- `DEC r` and `DEC (HL)` (R101, R102) -/
def Instr.dec : Opnd → Instr
  | .reg .B => .dec_B
  | .reg .C => .dec_C
  | .reg .D => .dec_D
  | .reg .E => .dec_E
  | .reg .H => .dec_H
  | .reg .L => .dec_L
  | .mHL => .dec_mHL
  | .reg .A => .dec_A

/-- `op A,r` and `op A,(HL)` (R90) -/
def Instr.alu : AluOp → Opnd → Instr
  | .add, .reg .B => .add_A_B
  | .add, .reg .C => .add_A_C
  | .add, .reg .D => .add_A_D
  | .add, .reg .E => .add_A_E
  | .add, .reg .H => .add_A_H
  | .add, .reg .L => .add_A_L
  | .add, .mHL => .add_A_mHL
  | .add, .reg .A => .add_A_A
  | .adc, .reg .B => .adc_A_B
  | .adc, .reg .C => .adc_A_C
  | .adc, .reg .D => .adc_A_D
  | .adc, .reg .E => .adc_A_E
  | .adc, .reg .H => .adc_A_H
  | .adc, .reg .L => .adc_A_L
  | .adc, .mHL => .adc_A_mHL
  | .adc, .reg .A => .adc_A_A
  | .sub, .reg .B => .sub_A_B
  | .sub, .reg .C => .sub_A_C
  | .sub, .reg .D => .sub_A_D
  | .sub, .reg .E => .sub_A_E
  | .sub, .reg .H => .sub_A_H
  | .sub, .reg .L => .sub_A_L
  | .sub, .mHL => .sub_A_mHL
  | .sub, .reg .A => .sub_A_A
  | .sbc, .reg .B => .sbc_A_B
  | .sbc, .reg .C => .sbc_A_C
  | .sbc, .reg .D => .sbc_A_D
  | .sbc, .reg .E => .sbc_A_E
  | .sbc, .reg .H => .sbc_A_H
  | .sbc, .reg .L => .sbc_A_L
  | .sbc, .mHL => .sbc_A_mHL
  | .sbc, .reg .A => .sbc_A_A
  | .and, .reg .B => .and_A_B
  | .and, .reg .C => .and_A_C
  | .and, .reg .D => .and_A_D
  | .and, .reg .E => .and_A_E
  | .and, .reg .H => .and_A_H
  | .and, .reg .L => .and_A_L
  | .and, .mHL => .and_A_mHL
  | .and, .reg .A => .and_A_A
  | .xor, .reg .B => .xor_A_B
  | .xor, .reg .C => .xor_A_C
  | .xor, .reg .D => .xor_A_D
  | .xor, .reg .E => .xor_A_E
  | .xor, .reg .H => .xor_A_H
  | .xor, .reg .L => .xor_A_L
  | .xor, .mHL => .xor_A_mHL
  | .xor, .reg .A => .xor_A_A
  | .or, .reg .B => .or_A_B
  | .or, .reg .C => .or_A_C
  | .or, .reg .D => .or_A_D
  | .or, .reg .E => .or_A_E
  | .or, .reg .H => .or_A_H
  | .or, .reg .L => .or_A_L
  | .or, .mHL => .or_A_mHL
  | .or, .reg .A => .or_A_A
  | .cp, .reg .B => .cp_A_B
  | .cp, .reg .C => .cp_A_C
  | .cp, .reg .D => .cp_A_D
  | .cp, .reg .E => .cp_A_E
  | .cp, .reg .H => .cp_A_H
  | .cp, .reg .L => .cp_A_L
  | .cp, .mHL => .cp_A_mHL
  | .cp, .reg .A => .cp_A_A

/-- `op A,d8` (R90) -/
def Instr.aluD8 : AluOp → Byte → Instr
  | .add, v => .add_A_d8 v
  | .adc, v => .adc_A_d8 v
  | .sub, v => .sub_A_d8 v
  | .sbc, v => .sbc_A_d8 v
  | .and, v => .and_A_d8 v
  | .xor, v => .xor_A_d8 v
  | .or, v => .or_A_d8 v
  | .cp, v => .cp_A_d8 v

/-- the rotates and shifts of the extended table (R120 to R127) -/
def Instr.rot : RotOp → Opnd → Instr
  | .rlc, .reg .B => .rlc_B
  | .rlc, .reg .C => .rlc_C
  | .rlc, .reg .D => .rlc_D
  | .rlc, .reg .E => .rlc_E
  | .rlc, .reg .H => .rlc_H
  | .rlc, .reg .L => .rlc_L
  | .rlc, .mHL => .rlc_mHL
  | .rlc, .reg .A => .rlc_A
  | .rrc, .reg .B => .rrc_B
  | .rrc, .reg .C => .rrc_C
  | .rrc, .reg .D => .rrc_D
  | .rrc, .reg .E => .rrc_E
  | .rrc, .reg .H => .rrc_H
  | .rrc, .reg .L => .rrc_L
  | .rrc, .mHL => .rrc_mHL
  | .rrc, .reg .A => .rrc_A
  | .rl, .reg .B => .rl_B
  | .rl, .reg .C => .rl_C
  | .rl, .reg .D => .rl_D
  | .rl, .reg .E => .rl_E
  | .rl, .reg .H => .rl_H
  | .rl, .reg .L => .rl_L
  | .rl, .mHL => .rl_mHL
  | .rl, .reg .A => .rl_A
  | .rr, .reg .B => .rr_B
  | .rr, .reg .C => .rr_C
  | .rr, .reg .D => .rr_D
  | .rr, .reg .E => .rr_E
  | .rr, .reg .H => .rr_H
  | .rr, .reg .L => .rr_L
  | .rr, .mHL => .rr_mHL
  | .rr, .reg .A => .rr_A
  | .sla, .reg .B => .sla_B
  | .sla, .reg .C => .sla_C
  | .sla, .reg .D => .sla_D
  | .sla, .reg .E => .sla_E
  | .sla, .reg .H => .sla_H
  | .sla, .reg .L => .sla_L
  | .sla, .mHL => .sla_mHL
  | .sla, .reg .A => .sla_A
  | .sra, .reg .B => .sra_B
  | .sra, .reg .C => .sra_C
  | .sra, .reg .D => .sra_D
  | .sra, .reg .E => .sra_E
  | .sra, .reg .H => .sra_H
  | .sra, .reg .L => .sra_L
  | .sra, .mHL => .sra_mHL
  | .sra, .reg .A => .sra_A
  | .swap, .reg .B => .swap_B
  | .swap, .reg .C => .swap_C
  | .swap, .reg .D => .swap_D
  | .swap, .reg .E => .swap_E
  | .swap, .reg .H => .swap_H
  | .swap, .reg .L => .swap_L
  | .swap, .mHL => .swap_mHL
  | .swap, .reg .A => .swap_A
  | .srl, .reg .B => .srl_B
  | .srl, .reg .C => .srl_C
  | .srl, .reg .D => .srl_D
  | .srl, .reg .E => .srl_E
  | .srl, .reg .H => .srl_H
  | .srl, .reg .L => .srl_L
  | .srl, .mHL => .srl_mHL
  | .srl, .reg .A => .srl_A

/-- `BIT b,v` (R128) -/
def Instr.bit : Fin 8 → Opnd → Instr
  | 0, .reg .B => .bit_0_B
  | 0, .reg .C => .bit_0_C
  | 0, .reg .D => .bit_0_D
  | 0, .reg .E => .bit_0_E
  | 0, .reg .H => .bit_0_H
  | 0, .reg .L => .bit_0_L
  | 0, .mHL => .bit_0_mHL
  | 0, .reg .A => .bit_0_A
  | 1, .reg .B => .bit_1_B
  | 1, .reg .C => .bit_1_C
  | 1, .reg .D => .bit_1_D
  | 1, .reg .E => .bit_1_E
  | 1, .reg .H => .bit_1_H
  | 1, .reg .L => .bit_1_L
  | 1, .mHL => .bit_1_mHL
  | 1, .reg .A => .bit_1_A
  | 2, .reg .B => .bit_2_B
  | 2, .reg .C => .bit_2_C
  | 2, .reg .D => .bit_2_D
  | 2, .reg .E => .bit_2_E
  | 2, .reg .H => .bit_2_H
  | 2, .reg .L => .bit_2_L
  | 2, .mHL => .bit_2_mHL
  | 2, .reg .A => .bit_2_A
  | 3, .reg .B => .bit_3_B
  | 3, .reg .C => .bit_3_C
  | 3, .reg .D => .bit_3_D
  | 3, .reg .E => .bit_3_E
  | 3, .reg .H => .bit_3_H
  | 3, .reg .L => .bit_3_L
  | 3, .mHL => .bit_3_mHL
  | 3, .reg .A => .bit_3_A
  | 4, .reg .B => .bit_4_B
  | 4, .reg .C => .bit_4_C
  | 4, .reg .D => .bit_4_D
  | 4, .reg .E => .bit_4_E
  | 4, .reg .H => .bit_4_H
  | 4, .reg .L => .bit_4_L
  | 4, .mHL => .bit_4_mHL
  | 4, .reg .A => .bit_4_A
  | 5, .reg .B => .bit_5_B
  | 5, .reg .C => .bit_5_C
  | 5, .reg .D => .bit_5_D
  | 5, .reg .E => .bit_5_E
  | 5, .reg .H => .bit_5_H
  | 5, .reg .L => .bit_5_L
  | 5, .mHL => .bit_5_mHL
  | 5, .reg .A => .bit_5_A
  | 6, .reg .B => .bit_6_B
  | 6, .reg .C => .bit_6_C
  | 6, .reg .D => .bit_6_D
  | 6, .reg .E => .bit_6_E
  | 6, .reg .H => .bit_6_H
  | 6, .reg .L => .bit_6_L
  | 6, .mHL => .bit_6_mHL
  | 6, .reg .A => .bit_6_A
  | 7, .reg .B => .bit_7_B
  | 7, .reg .C => .bit_7_C
  | 7, .reg .D => .bit_7_D
  | 7, .reg .E => .bit_7_E
  | 7, .reg .H => .bit_7_H
  | 7, .reg .L => .bit_7_L
  | 7, .mHL => .bit_7_mHL
  | 7, .reg .A => .bit_7_A

/-- `RES b,v` (R129) -/
def Instr.res : Fin 8 → Opnd → Instr
  | 0, .reg .B => .res_0_B
  | 0, .reg .C => .res_0_C
  | 0, .reg .D => .res_0_D
  | 0, .reg .E => .res_0_E
  | 0, .reg .H => .res_0_H
  | 0, .reg .L => .res_0_L
  | 0, .mHL => .res_0_mHL
  | 0, .reg .A => .res_0_A
  | 1, .reg .B => .res_1_B
  | 1, .reg .C => .res_1_C
  | 1, .reg .D => .res_1_D
  | 1, .reg .E => .res_1_E
  | 1, .reg .H => .res_1_H
  | 1, .reg .L => .res_1_L
  | 1, .mHL => .res_1_mHL
  | 1, .reg .A => .res_1_A
  | 2, .reg .B => .res_2_B
  | 2, .reg .C => .res_2_C
  | 2, .reg .D => .res_2_D
  | 2, .reg .E => .res_2_E
  | 2, .reg .H => .res_2_H
  | 2, .reg .L => .res_2_L
  | 2, .mHL => .res_2_mHL
  | 2, .reg .A => .res_2_A
  | 3, .reg .B => .res_3_B
  | 3, .reg .C => .res_3_C
  | 3, .reg .D => .res_3_D
  | 3, .reg .E => .res_3_E
  | 3, .reg .H => .res_3_H
  | 3, .reg .L => .res_3_L
  | 3, .mHL => .res_3_mHL
  | 3, .reg .A => .res_3_A
  | 4, .reg .B => .res_4_B
  | 4, .reg .C => .res_4_C
  | 4, .reg .D => .res_4_D
  | 4, .reg .E => .res_4_E
  | 4, .reg .H => .res_4_H
  | 4, .reg .L => .res_4_L
  | 4, .mHL => .res_4_mHL
  | 4, .reg .A => .res_4_A
  | 5, .reg .B => .res_5_B
  | 5, .reg .C => .res_5_C
  | 5, .reg .D => .res_5_D
  | 5, .reg .E => .res_5_E
  | 5, .reg .H => .res_5_H
  | 5, .reg .L => .res_5_L
  | 5, .mHL => .res_5_mHL
  | 5, .reg .A => .res_5_A
  | 6, .reg .B => .res_6_B
  | 6, .reg .C => .res_6_C
  | 6, .reg .D => .res_6_D
  | 6, .reg .E => .res_6_E
  | 6, .reg .H => .res_6_H
  | 6, .reg .L => .res_6_L
  | 6, .mHL => .res_6_mHL
  | 6, .reg .A => .res_6_A
  | 7, .reg .B => .res_7_B
  | 7, .reg .C => .res_7_C
  | 7, .reg .D => .res_7_D
  | 7, .reg .E => .res_7_E
  | 7, .reg .H => .res_7_H
  | 7, .reg .L => .res_7_L
  | 7, .mHL => .res_7_mHL
  | 7, .reg .A => .res_7_A

/-- `SET b,v` (R130) -/
def Instr.set : Fin 8 → Opnd → Instr
  | 0, .reg .B => .set_0_B
  | 0, .reg .C => .set_0_C
  | 0, .reg .D => .set_0_D
  | 0, .reg .E => .set_0_E
  | 0, .reg .H => .set_0_H
  | 0, .reg .L => .set_0_L
  | 0, .mHL => .set_0_mHL
  | 0, .reg .A => .set_0_A
  | 1, .reg .B => .set_1_B
  | 1, .reg .C => .set_1_C
  | 1, .reg .D => .set_1_D
  | 1, .reg .E => .set_1_E
  | 1, .reg .H => .set_1_H
  | 1, .reg .L => .set_1_L
  | 1, .mHL => .set_1_mHL
  | 1, .reg .A => .set_1_A
  | 2, .reg .B => .set_2_B
  | 2, .reg .C => .set_2_C
  | 2, .reg .D => .set_2_D
  | 2, .reg .E => .set_2_E
  | 2, .reg .H => .set_2_H
  | 2, .reg .L => .set_2_L
  | 2, .mHL => .set_2_mHL
  | 2, .reg .A => .set_2_A
  | 3, .reg .B => .set_3_B
  | 3, .reg .C => .set_3_C
  | 3, .reg .D => .set_3_D
  | 3, .reg .E => .set_3_E
  | 3, .reg .H => .set_3_H
  | 3, .reg .L => .set_3_L
  | 3, .mHL => .set_3_mHL
  | 3, .reg .A => .set_3_A
  | 4, .reg .B => .set_4_B
  | 4, .reg .C => .set_4_C
  | 4, .reg .D => .set_4_D
  | 4, .reg .E => .set_4_E
  | 4, .reg .H => .set_4_H
  | 4, .reg .L => .set_4_L
  | 4, .mHL => .set_4_mHL
  | 4, .reg .A => .set_4_A
  | 5, .reg .B => .set_5_B
  | 5, .reg .C => .set_5_C
  | 5, .reg .D => .set_5_D
  | 5, .reg .E => .set_5_E
  | 5, .reg .H => .set_5_H
  | 5, .reg .L => .set_5_L
  | 5, .mHL => .set_5_mHL
  | 5, .reg .A => .set_5_A
  | 6, .reg .B => .set_6_B
  | 6, .reg .C => .set_6_C
  | 6, .reg .D => .set_6_D
  | 6, .reg .E => .set_6_E
  | 6, .reg .H => .set_6_H
  | 6, .reg .L => .set_6_L
  | 6, .mHL => .set_6_mHL
  | 6, .reg .A => .set_6_A
  | 7, .reg .B => .set_7_B
  | 7, .reg .C => .set_7_C
  | 7, .reg .D => .set_7_D
  | 7, .reg .E => .set_7_E
  | 7, .reg .H => .set_7_H
  | 7, .reg .L => .set_7_L
  | 7, .mHL => .set_7_mHL
  | 7, .reg .A => .set_7_A

/-- `JP cc,a16` (R137) -/
def Instr.jpCc : Cond → Word → Instr
  | .NZ, v => .jp_NZ_a16 v
  | .Z, v => .jp_Z_a16 v
  | .NC, v => .jp_NC_a16 v
  | .C, v => .jp_C_a16 v

/-- `JR cc,e8` (R140) -/
def Instr.jrCc : Cond → Byte → Instr
  | .NZ, v => .jr_NZ_e8 v
  | .Z, v => .jr_Z_e8 v
  | .NC, v => .jr_NC_e8 v
  | .C, v => .jr_C_e8 v

/-- `CALL cc,a16` (R142) -/
def Instr.callCc : Cond → Word → Instr
  | .NZ, v => .call_NZ_a16 v
  | .Z, v => .call_Z_a16 v
  | .NC, v => .call_NC_a16 v
  | .C, v => .call_C_a16 v

/-- `RET cc` (R144) -/
def Instr.retCc : Cond → Instr
  | .NZ => .ret_NZ
  | .Z => .ret_Z
  | .NC => .ret_NC
  | .C => .ret_C

/-- `RST n` with target 8*y (R146) -/
def Instr.rst : Fin 8 → Instr
  | 0 => .rst_00
  | 1 => .rst_08
  | 2 => .rst_10
  | 3 => .rst_18
  | 4 => .rst_20
  | 5 => .rst_28
  | 6 => .rst_30
  | 7 => .rst_38

/-! ### The decoder -/

/-- How many bytes an instruction has: a function of its first byte alone (R52, by the formats of R45
that the table by fields of R48 gives each byte). -/
def instrLength (b : Byte) : Nat :=
  match fieldX b, fieldZ b, fieldY b with
  | 0, 0, 1 => 3
  | 0, 0, 0 => 1
  | 0, 0, 2 => 1
  | 0, 0, _ => 2
  | 0, 1, _ => if fieldQ b = 0 then 3 else 1
  | 0, 6, _ => 2
  | 3, 0, y => if y < 4 then 1 else 2
  | 3, 2, y => if y < 4 ∨ y = 5 ∨ y = 7 then 3 else 1
  | 3, 3, 0 => 3
  | 3, 3, 1 => 2
  | 3, 4, y => if y < 4 then 3 else 1
  | 3, 5, y => if y = 1 then 3 else 1
  | 3, 6, _ => 2
  | _, _, _ => 1

/-- Quadrant x = 0 of the base table (R48). -/
def decodeX0 (b d8 : Byte) (d16 : Word) : Instr :=
  match fieldZ b with
  | 0 =>
    match fieldY b with
    | 0 => .nop
    | 1 => .ld_mA16_SP d16
    | 2 => .stop
    | 3 => .jr_e8 d8
    | y => .jrCc (Cond.ofIndex (y - 4)) d8
  | 1 => if fieldQ b = 0 then .ldRpD16 (RP.ofIndex (fieldP b)) d16 else .addHL (RP.ofIndex (fieldP b))
  | 2 =>
    match fieldQ b, fieldP b with
    | 0, 0 => .ld_mBC_A
    | 0, 1 => .ld_mDE_A
    | 0, 2 => .ld_mHLinc_A
    | 0, _ => .ld_mHLdec_A
    | _, 0 => .ld_A_mBC
    | _, 1 => .ld_A_mDE
    | _, 2 => .ld_A_mHLinc
    | _, _ => .ld_A_mHLdec
  | 3 => if fieldQ b = 0 then .incRp (RP.ofIndex (fieldP b)) else .decRp (RP.ofIndex (fieldP b))
  | 4 => .inc (Opnd.ofIndex (fieldY b))
  | 5 => .dec (Opnd.ofIndex (fieldY b))
  | 6 =>
    match Opnd.ofIndex (fieldY b) with
    | .reg r => .ldRD8 r d8
    | .mHL => .ld_mHL_d8 d8
  | _ =>
    match fieldY b with
    | 0 => .rlca
    | 1 => .rrca
    | 2 => .rla
    | 3 => .rra
    | 4 => .daa
    | 5 => .cpl
    | 6 => .scf
    | _ => .ccf

/-- Quadrant x = 1 (R48): the register moves, and HALT in the slot of `LD (HL),(HL)`. -/
def decodeX1 (b : Byte) : Instr :=
  match Opnd.ofIndex (fieldY b), Opnd.ofIndex (fieldZ b) with
  | .reg d, .reg r => .ldRR d r
  | .reg d, .mHL => .ldRM d
  | .mHL, .reg r => .ldMR r
  | .mHL, .mHL => .halt

/-- Quadrant x = 3 (R48). The prefix byte is not decoded here (R49). -/
def decodeX3 (b d8 : Byte) (d16 : Word) : Instr :=
  match fieldZ b with
  | 0 =>
    match fieldY b with
    | 4 => .ldh_mA8_A d8
    | 5 => .add_SP_e8 d8
    | 6 => .ldh_A_mA8 d8
    | 7 => .ld_HL_SPe8 d8
    | y => .retCc (Cond.ofIndex y)
  | 1 =>
    match fieldQ b, fieldP b with
    | 0, p => .pop (RQ.ofIndex p)
    | _, 0 => .ret
    | _, 1 => .reti
    | _, 2 => .jp_HL
    | _, _ => .ld_SP_HL
  | 2 =>
    match fieldY b with
    | 4 => .ld_mC_A
    | 5 => .ld_mA16_A d16
    | 6 => .ld_A_mC
    | 7 => .ld_A_mA16 d16
    | y => .jpCc (Cond.ofIndex y) d16
  | 3 =>
    match fieldY b with
    | 0 => .jp_a16 d16
    | 2 => .undef_D3
    | 3 => .undef_DB
    | 4 => .undef_E3
    | 5 => .undef_EB
    | 6 => .di
    | _ => .ei
  | 4 =>
    match fieldY b with
    | 4 => .undef_E4
    | 5 => .undef_EC
    | 6 => .undef_F4
    | 7 => .undef_FC
    | y => .callCc (Cond.ofIndex y) d16
  | 5 =>
    match fieldQ b, fieldP b with
    | 0, p => .push (RQ.ofIndex p)
    | _, 0 => .call_a16 d16
    | _, 1 => .undef_DD
    | _, 2 => .undef_ED
    | _, _ => .undef_FD
  | 6 => .aluD8 (AluOp.ofIndex (fieldY b)) d8
  | _ => .rst (fieldY8 b)

/-- The base table (R48): opcode byte `b`, and its operand as a byte and as a word, of which the
instruction takes the one its format has. -/
def decodeBase (b d8 : Byte) (d16 : Word) : Instr :=
  match fieldX b with
  | 0 => decodeX0 b d8 d16
  | 1 => decodeX1 b
  | 2 => .alu (AluOp.ofIndex (fieldY b)) (Opnd.ofIndex (fieldZ b))
  | _ => decodeX3 b d8 d16

/-- The extended table, keyed by the byte after the prefix (R49). -/
def decodeExtended (b : Byte) : Instr :=
  match fieldX b with
  | 0 => .rot (RotOp.ofIndex (fieldY b)) (Opnd.ofIndex (fieldZ b))
  | 1 => .bit (fieldY8 b) (Opnd.ofIndex (fieldZ b))
  | 2 => .res (fieldY8 b) (Opnd.ofIndex (fieldZ b))
  | _ => .set (fieldY8 b) (Opnd.ofIndex (fieldZ b))

/-- `PREFIX`, the byte that selects the extended table (R49). -/
def prefixByte : Byte := 0xCB

/-- The instruction whose bytes are the first `instrLength b0` of `b0`, `b1`, `b2`. Total: every byte
value is valid to decode (R52), and a 16-bit operand has its low byte first (R47). -/
def decodeBytes (b0 b1 b2 : Byte) : Instr :=
  if b0 = prefixByte then decodeExtended b1 else decodeBase b0 b1 (joinBytes b2 b1)

/-- Why a byte string holds no instruction: it ends too early. No byte value is rejected (R50, R52). -/
inductive DecodeError where
  /-- the string is empty -/
  | noOpcode
  /-- the prefix byte stands last -/
  | noExtendedOpcode
  /-- operand bytes are missing after the opcode -/
  | noOperand
deriving DecidableEq, Repr

/-- The instruction at the head of a byte string, and the bytes after it. -/
def decode : List Byte → Except DecodeError (Instr × List Byte)
  | [] => .error .noOpcode
  | b0 :: rest =>
    match instrLength b0, rest with
    | 1, r => .ok (decodeBytes b0 0 0, r)
    | 2, b1 :: r => .ok (decodeBytes b0 b1 0, r)
    | 2, [] => .error (if b0 = prefixByte then .noExtendedOpcode else .noOperand)
    | _, b1 :: b2 :: r => .ok (decodeBytes b0 b1 b2, r)
    | _, _ => .error .noOperand

/-! ### The encoder -/

/-- The bytes of an instruction, in the order in which they are fetched (R47, R48, R49). -/
def encode : Instr → List Byte
  | .nop => [0x00]
  | .ld_BC_d16 d16 => [0x01, loByte d16, hiByte d16]
  | .ld_mBC_A => [0x02]
  | .inc_BC => [0x03]
  | .inc_B => [0x04]
  | .dec_B => [0x05]
  | .ld_B_d8 d8 => [0x06, d8]
  | .rlca => [0x07]
  | .ld_mA16_SP a16 => [0x08, loByte a16, hiByte a16]
  | .add_HL_BC => [0x09]
  | .ld_A_mBC => [0x0A]
  | .dec_BC => [0x0B]
  | .inc_C => [0x0C]
  | .dec_C => [0x0D]
  | .ld_C_d8 d8 => [0x0E, d8]
  | .rrca => [0x0F]
  | .stop => [0x10]
  | .ld_DE_d16 d16 => [0x11, loByte d16, hiByte d16]
  | .ld_mDE_A => [0x12]
  | .inc_DE => [0x13]
  | .inc_D => [0x14]
  | .dec_D => [0x15]
  | .ld_D_d8 d8 => [0x16, d8]
  | .rla => [0x17]
  | .jr_e8 e8 => [0x18, e8]
  | .add_HL_DE => [0x19]
  | .ld_A_mDE => [0x1A]
  | .dec_DE => [0x1B]
  | .inc_E => [0x1C]
  | .dec_E => [0x1D]
  | .ld_E_d8 d8 => [0x1E, d8]
  | .rra => [0x1F]
  | .jr_NZ_e8 e8 => [0x20, e8]
  | .ld_HL_d16 d16 => [0x21, loByte d16, hiByte d16]
  | .ld_mHLinc_A => [0x22]
  | .inc_HL => [0x23]
  | .inc_H => [0x24]
  | .dec_H => [0x25]
  | .ld_H_d8 d8 => [0x26, d8]
  | .daa => [0x27]
  | .jr_Z_e8 e8 => [0x28, e8]
  | .add_HL_HL => [0x29]
  | .ld_A_mHLinc => [0x2A]
  | .dec_HL => [0x2B]
  | .inc_L => [0x2C]
  | .dec_L => [0x2D]
  | .ld_L_d8 d8 => [0x2E, d8]
  | .cpl => [0x2F]
  | .jr_NC_e8 e8 => [0x30, e8]
  | .ld_SP_d16 d16 => [0x31, loByte d16, hiByte d16]
  | .ld_mHLdec_A => [0x32]
  | .inc_SP => [0x33]
  | .inc_mHL => [0x34]
  | .dec_mHL => [0x35]
  | .ld_mHL_d8 d8 => [0x36, d8]
  | .scf => [0x37]
  | .jr_C_e8 e8 => [0x38, e8]
  | .add_HL_SP => [0x39]
  | .ld_A_mHLdec => [0x3A]
  | .dec_SP => [0x3B]
  | .inc_A => [0x3C]
  | .dec_A => [0x3D]
  | .ld_A_d8 d8 => [0x3E, d8]
  | .ccf => [0x3F]
  | .ld_B_B => [0x40]
  | .ld_B_C => [0x41]
  | .ld_B_D => [0x42]
  | .ld_B_E => [0x43]
  | .ld_B_H => [0x44]
  | .ld_B_L => [0x45]
  | .ld_B_mHL => [0x46]
  | .ld_B_A => [0x47]
  | .ld_C_B => [0x48]
  | .ld_C_C => [0x49]
  | .ld_C_D => [0x4A]
  | .ld_C_E => [0x4B]
  | .ld_C_H => [0x4C]
  | .ld_C_L => [0x4D]
  | .ld_C_mHL => [0x4E]
  | .ld_C_A => [0x4F]
  | .ld_D_B => [0x50]
  | .ld_D_C => [0x51]
  | .ld_D_D => [0x52]
  | .ld_D_E => [0x53]
  | .ld_D_H => [0x54]
  | .ld_D_L => [0x55]
  | .ld_D_mHL => [0x56]
  | .ld_D_A => [0x57]
  | .ld_E_B => [0x58]
  | .ld_E_C => [0x59]
  | .ld_E_D => [0x5A]
  | .ld_E_E => [0x5B]
  | .ld_E_H => [0x5C]
  | .ld_E_L => [0x5D]
  | .ld_E_mHL => [0x5E]
  | .ld_E_A => [0x5F]
  | .ld_H_B => [0x60]
  | .ld_H_C => [0x61]
  | .ld_H_D => [0x62]
  | .ld_H_E => [0x63]
  | .ld_H_H => [0x64]
  | .ld_H_L => [0x65]
  | .ld_H_mHL => [0x66]
  | .ld_H_A => [0x67]
  | .ld_L_B => [0x68]
  | .ld_L_C => [0x69]
  | .ld_L_D => [0x6A]
  | .ld_L_E => [0x6B]
  | .ld_L_H => [0x6C]
  | .ld_L_L => [0x6D]
  | .ld_L_mHL => [0x6E]
  | .ld_L_A => [0x6F]
  | .ld_mHL_B => [0x70]
  | .ld_mHL_C => [0x71]
  | .ld_mHL_D => [0x72]
  | .ld_mHL_E => [0x73]
  | .ld_mHL_H => [0x74]
  | .ld_mHL_L => [0x75]
  | .halt => [0x76]
  | .ld_mHL_A => [0x77]
  | .ld_A_B => [0x78]
  | .ld_A_C => [0x79]
  | .ld_A_D => [0x7A]
  | .ld_A_E => [0x7B]
  | .ld_A_H => [0x7C]
  | .ld_A_L => [0x7D]
  | .ld_A_mHL => [0x7E]
  | .ld_A_A => [0x7F]
  | .add_A_B => [0x80]
  | .add_A_C => [0x81]
  | .add_A_D => [0x82]
  | .add_A_E => [0x83]
  | .add_A_H => [0x84]
  | .add_A_L => [0x85]
  | .add_A_mHL => [0x86]
  | .add_A_A => [0x87]
  | .adc_A_B => [0x88]
  | .adc_A_C => [0x89]
  | .adc_A_D => [0x8A]
  | .adc_A_E => [0x8B]
  | .adc_A_H => [0x8C]
  | .adc_A_L => [0x8D]
  | .adc_A_mHL => [0x8E]
  | .adc_A_A => [0x8F]
  | .sub_A_B => [0x90]
  | .sub_A_C => [0x91]
  | .sub_A_D => [0x92]
  | .sub_A_E => [0x93]
  | .sub_A_H => [0x94]
  | .sub_A_L => [0x95]
  | .sub_A_mHL => [0x96]
  | .sub_A_A => [0x97]
  | .sbc_A_B => [0x98]
  | .sbc_A_C => [0x99]
  | .sbc_A_D => [0x9A]
  | .sbc_A_E => [0x9B]
  | .sbc_A_H => [0x9C]
  | .sbc_A_L => [0x9D]
  | .sbc_A_mHL => [0x9E]
  | .sbc_A_A => [0x9F]
  | .and_A_B => [0xA0]
  | .and_A_C => [0xA1]
  | .and_A_D => [0xA2]
  | .and_A_E => [0xA3]
  | .and_A_H => [0xA4]
  | .and_A_L => [0xA5]
  | .and_A_mHL => [0xA6]
  | .and_A_A => [0xA7]
  | .xor_A_B => [0xA8]
  | .xor_A_C => [0xA9]
  | .xor_A_D => [0xAA]
  | .xor_A_E => [0xAB]
  | .xor_A_H => [0xAC]
  | .xor_A_L => [0xAD]
  | .xor_A_mHL => [0xAE]
  | .xor_A_A => [0xAF]
  | .or_A_B => [0xB0]
  | .or_A_C => [0xB1]
  | .or_A_D => [0xB2]
  | .or_A_E => [0xB3]
  | .or_A_H => [0xB4]
  | .or_A_L => [0xB5]
  | .or_A_mHL => [0xB6]
  | .or_A_A => [0xB7]
  | .cp_A_B => [0xB8]
  | .cp_A_C => [0xB9]
  | .cp_A_D => [0xBA]
  | .cp_A_E => [0xBB]
  | .cp_A_H => [0xBC]
  | .cp_A_L => [0xBD]
  | .cp_A_mHL => [0xBE]
  | .cp_A_A => [0xBF]
  | .ret_NZ => [0xC0]
  | .pop_BC => [0xC1]
  | .jp_NZ_a16 a16 => [0xC2, loByte a16, hiByte a16]
  | .jp_a16 a16 => [0xC3, loByte a16, hiByte a16]
  | .call_NZ_a16 a16 => [0xC4, loByte a16, hiByte a16]
  | .push_BC => [0xC5]
  | .add_A_d8 d8 => [0xC6, d8]
  | .rst_00 => [0xC7]
  | .ret_Z => [0xC8]
  | .ret => [0xC9]
  | .jp_Z_a16 a16 => [0xCA, loByte a16, hiByte a16]
  | .call_Z_a16 a16 => [0xCC, loByte a16, hiByte a16]
  | .call_a16 a16 => [0xCD, loByte a16, hiByte a16]
  | .adc_A_d8 d8 => [0xCE, d8]
  | .rst_08 => [0xCF]
  | .ret_NC => [0xD0]
  | .pop_DE => [0xD1]
  | .jp_NC_a16 a16 => [0xD2, loByte a16, hiByte a16]
  | .undef_D3 => [0xD3]
  | .call_NC_a16 a16 => [0xD4, loByte a16, hiByte a16]
  | .push_DE => [0xD5]
  | .sub_A_d8 d8 => [0xD6, d8]
  | .rst_10 => [0xD7]
  | .ret_C => [0xD8]
  | .reti => [0xD9]
  | .jp_C_a16 a16 => [0xDA, loByte a16, hiByte a16]
  | .undef_DB => [0xDB]
  | .call_C_a16 a16 => [0xDC, loByte a16, hiByte a16]
  | .undef_DD => [0xDD]
  | .sbc_A_d8 d8 => [0xDE, d8]
  | .rst_18 => [0xDF]
  | .ldh_mA8_A a8 => [0xE0, a8]
  | .pop_HL => [0xE1]
  | .ld_mC_A => [0xE2]
  | .undef_E3 => [0xE3]
  | .undef_E4 => [0xE4]
  | .push_HL => [0xE5]
  | .and_A_d8 d8 => [0xE6, d8]
  | .rst_20 => [0xE7]
  | .add_SP_e8 e8 => [0xE8, e8]
  | .jp_HL => [0xE9]
  | .ld_mA16_A a16 => [0xEA, loByte a16, hiByte a16]
  | .undef_EB => [0xEB]
  | .undef_EC => [0xEC]
  | .undef_ED => [0xED]
  | .xor_A_d8 d8 => [0xEE, d8]
  | .rst_28 => [0xEF]
  | .ldh_A_mA8 a8 => [0xF0, a8]
  | .pop_AF => [0xF1]
  | .ld_A_mC => [0xF2]
  | .di => [0xF3]
  | .undef_F4 => [0xF4]
  | .push_AF => [0xF5]
  | .or_A_d8 d8 => [0xF6, d8]
  | .rst_30 => [0xF7]
  | .ld_HL_SPe8 e8 => [0xF8, e8]
  | .ld_SP_HL => [0xF9]
  | .ld_A_mA16 a16 => [0xFA, loByte a16, hiByte a16]
  | .ei => [0xFB]
  | .undef_FC => [0xFC]
  | .undef_FD => [0xFD]
  | .cp_A_d8 d8 => [0xFE, d8]
  | .rst_38 => [0xFF]
  | .rlc_B => [0xCB, 0x00]
  | .rlc_C => [0xCB, 0x01]
  | .rlc_D => [0xCB, 0x02]
  | .rlc_E => [0xCB, 0x03]
  | .rlc_H => [0xCB, 0x04]
  | .rlc_L => [0xCB, 0x05]
  | .rlc_mHL => [0xCB, 0x06]
  | .rlc_A => [0xCB, 0x07]
  | .rrc_B => [0xCB, 0x08]
  | .rrc_C => [0xCB, 0x09]
  | .rrc_D => [0xCB, 0x0A]
  | .rrc_E => [0xCB, 0x0B]
  | .rrc_H => [0xCB, 0x0C]
  | .rrc_L => [0xCB, 0x0D]
  | .rrc_mHL => [0xCB, 0x0E]
  | .rrc_A => [0xCB, 0x0F]
  | .rl_B => [0xCB, 0x10]
  | .rl_C => [0xCB, 0x11]
  | .rl_D => [0xCB, 0x12]
  | .rl_E => [0xCB, 0x13]
  | .rl_H => [0xCB, 0x14]
  | .rl_L => [0xCB, 0x15]
  | .rl_mHL => [0xCB, 0x16]
  | .rl_A => [0xCB, 0x17]
  | .rr_B => [0xCB, 0x18]
  | .rr_C => [0xCB, 0x19]
  | .rr_D => [0xCB, 0x1A]
  | .rr_E => [0xCB, 0x1B]
  | .rr_H => [0xCB, 0x1C]
  | .rr_L => [0xCB, 0x1D]
  | .rr_mHL => [0xCB, 0x1E]
  | .rr_A => [0xCB, 0x1F]
  | .sla_B => [0xCB, 0x20]
  | .sla_C => [0xCB, 0x21]
  | .sla_D => [0xCB, 0x22]
  | .sla_E => [0xCB, 0x23]
  | .sla_H => [0xCB, 0x24]
  | .sla_L => [0xCB, 0x25]
  | .sla_mHL => [0xCB, 0x26]
  | .sla_A => [0xCB, 0x27]
  | .sra_B => [0xCB, 0x28]
  | .sra_C => [0xCB, 0x29]
  | .sra_D => [0xCB, 0x2A]
  | .sra_E => [0xCB, 0x2B]
  | .sra_H => [0xCB, 0x2C]
  | .sra_L => [0xCB, 0x2D]
  | .sra_mHL => [0xCB, 0x2E]
  | .sra_A => [0xCB, 0x2F]
  | .swap_B => [0xCB, 0x30]
  | .swap_C => [0xCB, 0x31]
  | .swap_D => [0xCB, 0x32]
  | .swap_E => [0xCB, 0x33]
  | .swap_H => [0xCB, 0x34]
  | .swap_L => [0xCB, 0x35]
  | .swap_mHL => [0xCB, 0x36]
  | .swap_A => [0xCB, 0x37]
  | .srl_B => [0xCB, 0x38]
  | .srl_C => [0xCB, 0x39]
  | .srl_D => [0xCB, 0x3A]
  | .srl_E => [0xCB, 0x3B]
  | .srl_H => [0xCB, 0x3C]
  | .srl_L => [0xCB, 0x3D]
  | .srl_mHL => [0xCB, 0x3E]
  | .srl_A => [0xCB, 0x3F]
  | .bit_0_B => [0xCB, 0x40]
  | .bit_0_C => [0xCB, 0x41]
  | .bit_0_D => [0xCB, 0x42]
  | .bit_0_E => [0xCB, 0x43]
  | .bit_0_H => [0xCB, 0x44]
  | .bit_0_L => [0xCB, 0x45]
  | .bit_0_mHL => [0xCB, 0x46]
  | .bit_0_A => [0xCB, 0x47]
  | .bit_1_B => [0xCB, 0x48]
  | .bit_1_C => [0xCB, 0x49]
  | .bit_1_D => [0xCB, 0x4A]
  | .bit_1_E => [0xCB, 0x4B]
  | .bit_1_H => [0xCB, 0x4C]
  | .bit_1_L => [0xCB, 0x4D]
  | .bit_1_mHL => [0xCB, 0x4E]
  | .bit_1_A => [0xCB, 0x4F]
  | .bit_2_B => [0xCB, 0x50]
  | .bit_2_C => [0xCB, 0x51]
  | .bit_2_D => [0xCB, 0x52]
  | .bit_2_E => [0xCB, 0x53]
  | .bit_2_H => [0xCB, 0x54]
  | .bit_2_L => [0xCB, 0x55]
  | .bit_2_mHL => [0xCB, 0x56]
  | .bit_2_A => [0xCB, 0x57]
  | .bit_3_B => [0xCB, 0x58]
  | .bit_3_C => [0xCB, 0x59]
  | .bit_3_D => [0xCB, 0x5A]
  | .bit_3_E => [0xCB, 0x5B]
  | .bit_3_H => [0xCB, 0x5C]
  | .bit_3_L => [0xCB, 0x5D]
  | .bit_3_mHL => [0xCB, 0x5E]
  | .bit_3_A => [0xCB, 0x5F]
  | .bit_4_B => [0xCB, 0x60]
  | .bit_4_C => [0xCB, 0x61]
  | .bit_4_D => [0xCB, 0x62]
  | .bit_4_E => [0xCB, 0x63]
  | .bit_4_H => [0xCB, 0x64]
  | .bit_4_L => [0xCB, 0x65]
  | .bit_4_mHL => [0xCB, 0x66]
  | .bit_4_A => [0xCB, 0x67]
  | .bit_5_B => [0xCB, 0x68]
  | .bit_5_C => [0xCB, 0x69]
  | .bit_5_D => [0xCB, 0x6A]
  | .bit_5_E => [0xCB, 0x6B]
  | .bit_5_H => [0xCB, 0x6C]
  | .bit_5_L => [0xCB, 0x6D]
  | .bit_5_mHL => [0xCB, 0x6E]
  | .bit_5_A => [0xCB, 0x6F]
  | .bit_6_B => [0xCB, 0x70]
  | .bit_6_C => [0xCB, 0x71]
  | .bit_6_D => [0xCB, 0x72]
  | .bit_6_E => [0xCB, 0x73]
  | .bit_6_H => [0xCB, 0x74]
  | .bit_6_L => [0xCB, 0x75]
  | .bit_6_mHL => [0xCB, 0x76]
  | .bit_6_A => [0xCB, 0x77]
  | .bit_7_B => [0xCB, 0x78]
  | .bit_7_C => [0xCB, 0x79]
  | .bit_7_D => [0xCB, 0x7A]
  | .bit_7_E => [0xCB, 0x7B]
  | .bit_7_H => [0xCB, 0x7C]
  | .bit_7_L => [0xCB, 0x7D]
  | .bit_7_mHL => [0xCB, 0x7E]
  | .bit_7_A => [0xCB, 0x7F]
  | .res_0_B => [0xCB, 0x80]
  | .res_0_C => [0xCB, 0x81]
  | .res_0_D => [0xCB, 0x82]
  | .res_0_E => [0xCB, 0x83]
  | .res_0_H => [0xCB, 0x84]
  | .res_0_L => [0xCB, 0x85]
  | .res_0_mHL => [0xCB, 0x86]
  | .res_0_A => [0xCB, 0x87]
  | .res_1_B => [0xCB, 0x88]
  | .res_1_C => [0xCB, 0x89]
  | .res_1_D => [0xCB, 0x8A]
  | .res_1_E => [0xCB, 0x8B]
  | .res_1_H => [0xCB, 0x8C]
  | .res_1_L => [0xCB, 0x8D]
  | .res_1_mHL => [0xCB, 0x8E]
  | .res_1_A => [0xCB, 0x8F]
  | .res_2_B => [0xCB, 0x90]
  | .res_2_C => [0xCB, 0x91]
  | .res_2_D => [0xCB, 0x92]
  | .res_2_E => [0xCB, 0x93]
  | .res_2_H => [0xCB, 0x94]
  | .res_2_L => [0xCB, 0x95]
  | .res_2_mHL => [0xCB, 0x96]
  | .res_2_A => [0xCB, 0x97]
  | .res_3_B => [0xCB, 0x98]
  | .res_3_C => [0xCB, 0x99]
  | .res_3_D => [0xCB, 0x9A]
  | .res_3_E => [0xCB, 0x9B]
  | .res_3_H => [0xCB, 0x9C]
  | .res_3_L => [0xCB, 0x9D]
  | .res_3_mHL => [0xCB, 0x9E]
  | .res_3_A => [0xCB, 0x9F]
  | .res_4_B => [0xCB, 0xA0]
  | .res_4_C => [0xCB, 0xA1]
  | .res_4_D => [0xCB, 0xA2]
  | .res_4_E => [0xCB, 0xA3]
  | .res_4_H => [0xCB, 0xA4]
  | .res_4_L => [0xCB, 0xA5]
  | .res_4_mHL => [0xCB, 0xA6]
  | .res_4_A => [0xCB, 0xA7]
  | .res_5_B => [0xCB, 0xA8]
  | .res_5_C => [0xCB, 0xA9]
  | .res_5_D => [0xCB, 0xAA]
  | .res_5_E => [0xCB, 0xAB]
  | .res_5_H => [0xCB, 0xAC]
  | .res_5_L => [0xCB, 0xAD]
  | .res_5_mHL => [0xCB, 0xAE]
  | .res_5_A => [0xCB, 0xAF]
  | .res_6_B => [0xCB, 0xB0]
  | .res_6_C => [0xCB, 0xB1]
  | .res_6_D => [0xCB, 0xB2]
  | .res_6_E => [0xCB, 0xB3]
  | .res_6_H => [0xCB, 0xB4]
  | .res_6_L => [0xCB, 0xB5]
  | .res_6_mHL => [0xCB, 0xB6]
  | .res_6_A => [0xCB, 0xB7]
  | .res_7_B => [0xCB, 0xB8]
  | .res_7_C => [0xCB, 0xB9]
  | .res_7_D => [0xCB, 0xBA]
  | .res_7_E => [0xCB, 0xBB]
  | .res_7_H => [0xCB, 0xBC]
  | .res_7_L => [0xCB, 0xBD]
  | .res_7_mHL => [0xCB, 0xBE]
  | .res_7_A => [0xCB, 0xBF]
  | .set_0_B => [0xCB, 0xC0]
  | .set_0_C => [0xCB, 0xC1]
  | .set_0_D => [0xCB, 0xC2]
  | .set_0_E => [0xCB, 0xC3]
  | .set_0_H => [0xCB, 0xC4]
  | .set_0_L => [0xCB, 0xC5]
  | .set_0_mHL => [0xCB, 0xC6]
  | .set_0_A => [0xCB, 0xC7]
  | .set_1_B => [0xCB, 0xC8]
  | .set_1_C => [0xCB, 0xC9]
  | .set_1_D => [0xCB, 0xCA]
  | .set_1_E => [0xCB, 0xCB]
  | .set_1_H => [0xCB, 0xCC]
  | .set_1_L => [0xCB, 0xCD]
  | .set_1_mHL => [0xCB, 0xCE]
  | .set_1_A => [0xCB, 0xCF]
  | .set_2_B => [0xCB, 0xD0]
  | .set_2_C => [0xCB, 0xD1]
  | .set_2_D => [0xCB, 0xD2]
  | .set_2_E => [0xCB, 0xD3]
  | .set_2_H => [0xCB, 0xD4]
  | .set_2_L => [0xCB, 0xD5]
  | .set_2_mHL => [0xCB, 0xD6]
  | .set_2_A => [0xCB, 0xD7]
  | .set_3_B => [0xCB, 0xD8]
  | .set_3_C => [0xCB, 0xD9]
  | .set_3_D => [0xCB, 0xDA]
  | .set_3_E => [0xCB, 0xDB]
  | .set_3_H => [0xCB, 0xDC]
  | .set_3_L => [0xCB, 0xDD]
  | .set_3_mHL => [0xCB, 0xDE]
  | .set_3_A => [0xCB, 0xDF]
  | .set_4_B => [0xCB, 0xE0]
  | .set_4_C => [0xCB, 0xE1]
  | .set_4_D => [0xCB, 0xE2]
  | .set_4_E => [0xCB, 0xE3]
  | .set_4_H => [0xCB, 0xE4]
  | .set_4_L => [0xCB, 0xE5]
  | .set_4_mHL => [0xCB, 0xE6]
  | .set_4_A => [0xCB, 0xE7]
  | .set_5_B => [0xCB, 0xE8]
  | .set_5_C => [0xCB, 0xE9]
  | .set_5_D => [0xCB, 0xEA]
  | .set_5_E => [0xCB, 0xEB]
  | .set_5_H => [0xCB, 0xEC]
  | .set_5_L => [0xCB, 0xED]
  | .set_5_mHL => [0xCB, 0xEE]
  | .set_5_A => [0xCB, 0xEF]
  | .set_6_B => [0xCB, 0xF0]
  | .set_6_C => [0xCB, 0xF1]
  | .set_6_D => [0xCB, 0xF2]
  | .set_6_E => [0xCB, 0xF3]
  | .set_6_H => [0xCB, 0xF4]
  | .set_6_L => [0xCB, 0xF5]
  | .set_6_mHL => [0xCB, 0xF6]
  | .set_6_A => [0xCB, 0xF7]
  | .set_7_B => [0xCB, 0xF8]
  | .set_7_C => [0xCB, 0xF9]
  | .set_7_D => [0xCB, 0xFA]
  | .set_7_E => [0xCB, 0xFB]
  | .set_7_H => [0xCB, 0xFC]
  | .set_7_L => [0xCB, 0xFD]
  | .set_7_mHL => [0xCB, 0xFE]
  | .set_7_A => [0xCB, 0xFF]

/-! ### The words of `opcode_table.json` -/

/-- The three bytes, in fetch order, that an instruction whose bits the table numbers as `w` begins
with. A row of the extended table is one 16-bit number with the prefix in its high byte and the
extended opcode in its low byte ("the two bytes in fetch order (0xCB first, then nn)", R55); any other
word has its first byte lowest (log entry 12). -/
def tableWordBytes (nbits w : Nat) : Byte × Byte × Byte :=
  let b0 := BitVec.ofNat 8 w
  let b1 := BitVec.ofNat 8 (w / 256)
  let b2 := BitVec.ofNat 8 (w / 65536)
  if nbits ≤ 8 then (b0, 0, 0)
  else if nbits ≤ 16 then (if b1 = prefixByte then (b1, b0, 0) else (b0, b1, 0))
  else (b0, b1, b2)

/-- The instruction the decoder reads from a word of the table. -/
def decodeTableWord (nbits w : Nat) : Option Instr :=
  let (b0, b1, b2) := tableWordBytes nbits w
  match decode [b0, b1, b2] with
  | .ok (i, _) => some i
  | .error _ => none

end Sys2Proof
end

