-- ==== Sys2Proof/Config.lean ====
section
/-! DEFINITION. What the spec leaves to the implementation (`00_scope.md` R5, the `OPEN` rows): the
parameters `RESET`, `INT_DISPATCH_CYCLES` and `Facade`. They are plain data, so that a statement holds
for every value of them; the model's `State` carries one value of `Params`, which no step changes.
The facade itself is "any total byte-read and byte-write functions" over a state of its own (R5;
`93_implementation_defined.md` U6): where no kind of `FacadeKind` fixes what an address does, what an access
answers and does is the value of the opaque functions below, which have no body. -/

namespace Sys2Proof

/-- What stands behind one address of the Memory Access Facade (`20_memory.md` R30 to R32: a written
byte may be stored, ignored, or cause a side effect; `60_exceptions.md` R163, R177: the facade may
route an address to the interrupt-register port). The classification is the model's (log entry 4). -/
inductive FacadeKind where
  /-- a stored byte: a read returns the last byte written (decision D15) -/
  | ram
  /-- a stored byte that the core's writes do not change (R32: "ignored (for example read-only memory)") -/
  | rom
  /-- the address the facade decodes as IE: `ReadIE`, `WriteIE` of R163 -/
  | portIE
  /-- the address the facade decodes as IF: `ReadIF`, `WriteIF` of R163 -/
  | portIF
  /-- anything else: the byte read, the facade's own state after the access, and IE and IF after it (the
  access may use the interrupt-register port, R163 case 2) are unknown functions of all that the facade has
  before it (R31, R32). With every address of this kind the facade is any pair of total functions. -/
  | device
deriving DecidableEq, Repr

/-- An inclusive range of addresses and what stands behind it. -/
structure Region where
  first : Word
  last  : Word
  kind  : FacadeKind
deriving DecidableEq, Repr

/-- The parameter `RESET` of `00_scope.md` R5 and `10_state.md` R25. -/
structure ResetValues where
  A : Byte
  F : Byte
  B : Byte
  C : Byte
  D : Byte
  E : Byte
  H : Byte
  L : Byte
  sp : Word
  pc : Word
deriving DecidableEq, Repr

/-- The `OPEN` parameters of `00_scope.md` R5. -/
structure Params where
  /-- `RESET` (decision D9) -/
  reset : ResetValues
  /-- `INT_DISPATCH_CYCLES` (decision D8) -/
  dispatchCycles : Byte
  /-- the facade's map: the first region that holds an address decides; an address that none holds is RAM -/
  regions : List Region
  /-- the facade's own state at power-on; since nothing else tells two facades with one map apart, it is also
  the argument that picks one (U6) -/
  facade : Nat
deriving DecidableEq, Repr

/-- What a byte of memory that nothing has written reads as. DESIGN CHOICE, unsafe (log entry 3): the
spec gives memory no reset contents (`93_implementation_defined.md` U6). -/
def Config.unlistedByte : Byte := 0x00

/-- The recommended defaults of `00_scope.md` R5: `RESET` all zero (D9), `INT_DISPATCH_CYCLES` 5 (D8),
the plain-RAM facade (D15). DESIGN CHOICE (log entries 1, 2, 4). -/
def Config.defaults : Params where
  reset := { A := 0, F := 0, B := 0, C := 0, D := 0, E := 0, H := 0, L := 0, sp := 0, pc := 0 }
  dispatchCycles := 5
  regions := []
  facade := 0

/-- One byte access of the core, as the facade sees it: `read_byte(address)` or `write_byte(address, value)`
(R31, R32). -/
inductive Access where
  | read (a : Word)
  | write (a : Word) (v : Byte)
deriving DecidableEq, Repr

/-- All that the answer to one access can depend on: the access, the facade's own state, the bytes it stores,
the interrupt masks it may read through the port (`60_exceptions.md` R163), and how many device accesses went
before, which lets two accesses that agree in all the rest answer differently (R31: "two reads of one address
may return different bytes"; log entry 5). -/
structure DeviceCall where
  access : Access
  facade : Nat
  stored : List Host.Cell
  IE     : Byte
  IF     : Byte
  nth    : Nat
deriving DecidableEq, Repr

/-- FREE VALUE: the byte that a read of a `device` address returns (`20_memory.md` R31: "a free input of the
step (an oracle answer)"; log entry 5). -/
opaque Config.deviceByte : DeviceCall → Byte

/-- FREE VALUE: the facade's own state after an access to a `device` address (R31, R32; log entry 5). -/
opaque Config.deviceState : DeviceCall → Nat

/-- FREE VALUE: IE after an access to a `device` address (`60_exceptions.md` R163 case 2; log entry 5). -/
opaque Config.deviceIE : DeviceCall → Byte

/-- FREE VALUE: IF after an access to a `device` address (`60_exceptions.md` R163 case 2; log entry 5). -/
opaque Config.deviceIF : DeviceCall → Byte

end Sys2Proof
end

