-- ==== Sys2Proof/Machine/State.lean ====
section
/-! DEFINITION. The state of the machine: the core's own state (`10_state.md` section 1, R22), the
memory behind the facade (`20_memory.md` R30), the facade's own state (`93_implementation_defined.md` U6),
and three fields of the model's own: the count of device accesses, the parameters, and the environment's
moves before the coming ticks. -/

namespace Sys2Proof.Machine

/-- The five interrupt sources, highest priority first (`60_exceptions.md` R161). -/
inductive Source where
  | vblank
  | videoStatus
  | timer
  | serial
  | input
deriving DecidableEq, Repr

/-- What the outside may do between two ticks: the writing operations of the interrupt-register port
(`60_exceptions.md` R163), a change of what the facade's memory holds or of the facade's own state
(`20_memory.md` R42), and the power-on reset (`70_reset_and_hazards.md` R185). -/
inductive EnvMove where
  | writeIE (v : Byte)
  | writeIF (v : Byte)
  | requestInterrupt (n : Source)
  | changeMemory (a : Word) (v : Byte)
  | changeFacade (n : Nat)
  | powerOnReset
deriving DecidableEq, Repr

/-- The facade's stored bytes: strictly rising addresses, and no entry that equals
`Config.unlistedByte`, which is what every unlisted address reads as (`Memory.wf`). -/
abbrev Memory := List Host.Cell

/-- The whole state. The names are the spec's (`00_scope.md` section 6.2). -/
structure State where
  /-- accumulator, high byte of AF (R10) -/
  A : Byte
  /-- flag register, low byte of AF; bits 3:0 read as zero (R12) -/
  F : Byte
  /-- high byte of BC (R10) -/
  B : Byte
  /-- low byte of BC (R10) -/
  C : Byte
  /-- high byte of DE (R10) -/
  D : Byte
  /-- low byte of DE (R10) -/
  E : Byte
  /-- high byte of HL (R10) -/
  H : Byte
  /-- low byte of HL (R10) -/
  L : Byte
  /-- stack pointer (R16) -/
  sp : Word
  /-- program counter (R15) -/
  pc : Word
  /-- global interrupt-enable gate (R20) -/
  IME : Bool
  /-- interrupt-enable mask, the document's `enabled` (R18) -/
  IE : Byte
  /-- interrupt-pending mask, the document's `flags` (R19) -/
  IF : Byte
  /-- clock counter of the current tick (R21) -/
  cycles : Byte
  /-- the bytes the facade stores (R30) -/
  mem : Memory
  /-- the facade's own state, of which the core sees only what its accesses answer (U6, R31, R32); a number
  codes it, and only `Config.deviceByte` and its like know what it means -/
  facade : Nat
  /-- the model's own: how many device accesses have been answered; keeps each answer free of the ones before -/
  asked : Nat
  /-- the model's own: the parameters of R5, which no step changes -/
  cfg : Params
  /-- the model's own: one list of environment moves for each coming tick, applied just before it -/
  inbox : List (List EnvMove)
deriving DecidableEq, Repr

/-- The core raises no exception and has no fault, trap, abort or stuck state (`00_scope.md` R3,
`60_exceptions.md` R160), so there is no reason to stop with: this type has no constructor. -/
inductive Fault : Type
deriving DecidableEq, Repr

/-- Why the model gives an instruction no meaning. -/
inductive Refusal where
  /-- Raised by an arm of `exec` whose instruction has no meaning yet (safe: the run stops). No arm does. -/
  | notModelled (mnemonic : String)
deriving DecidableEq, Repr

/-- What one instruction or one step answers. -/
abbrev Result := Host.Outcome State Fault Refusal

/-- The state a power-on leaves with parameters `p` (`70_reset_and_hazards.md` R185): both masks zero,
the gate closed, the register file at `RESET` with the low four bits of F zero (R12, R25), `cycles` 0
(R26), memory with nothing listed (log entry 3), the facade's own state as the parameters have it, no move of the environment waiting. -/
def State.powerOn (p : Params) : State where
  A := p.reset.A
  F := p.reset.F &&& 0xF0
  B := p.reset.B
  C := p.reset.C
  D := p.reset.D
  E := p.reset.E
  H := p.reset.H
  L := p.reset.L
  sp := p.reset.sp
  pc := p.reset.pc
  IME := false
  IE := 0x00
  IF := 0x00
  cycles := 0
  mem := []
  facade := p.facade
  asked := 0
  cfg := p
  inbox := []

/-- The machine right after reset, with the recommended default parameters (R5, R185). -/
def State.reset : State := State.powerOn Config.defaults

end Sys2Proof.Machine
end

