-- ==== Sys2Proof/Machine/Ops.lean ====
section
/-! DEFINITION. The named operations over registers and memory: the register file (`10_state.md`), the
memory port and its facade (`20_memory.md`), the stack and fetch primitives, the interrupt-register
port, the interrupt dispatch and the return from it (`60_exceptions.md`), and the environment's moves
between ticks. Nothing here fails (`00_scope.md` R3). -/

namespace Sys2Proof.Machine

/-! ### The facade's stored bytes -/

/-- The byte stored at an address; an unlisted address reads as `Config.unlistedByte`. -/
def Memory.read (m : Memory) (a : Nat) : Byte :=
  match m with
  | [] => Config.unlistedByte
  | (x, v) :: rest => if x = a then v else Memory.read rest a

/-- The memory without any entry for `a`. -/
def Memory.erase (m : Memory) (a : Nat) : Memory := m.filter (fun c => c.1 != a)

/-- The memory with an entry for `a` before the first entry of a higher address. -/
def Memory.insert (m : Memory) (a : Nat) (v : Byte) : Memory :=
  match m with
  | [] => [(a, v)]
  | (x, w) :: rest => if a < x then (a, v) :: (x, w) :: rest else (x, w) :: Memory.insert rest a v

/-- Store `v` at `a`, keeping the canonical form: a byte equal to what an unlisted address reads as is
not listed. -/
def Memory.write (m : Memory) (a : Nat) (v : Byte) : Memory :=
  if v = Config.unlistedByte then m.erase a else (m.erase a).insert a v

/-- The canonical form from address `lo` on. -/
def Memory.wfFrom (lo : Nat) (m : Memory) : Bool :=
  match m with
  | [] => true
  | (x, v) :: rest => decide (lo ≤ x) && decide (x < 65536) && v != Config.unlistedByte && Memory.wfFrom (x + 1) rest

/-- The canonical form: strictly rising addresses inside the 16-bit space (R30), and no entry equal to
what an unlisted address reads as. Equal memories are then equal lists. -/
def Memory.wf (m : Memory) : Bool := m.wfFrom 0

/-- The byte the facade stores at an address of the core, whatever stands behind that address. -/
def State.byteAt (s : State) (a : Word) : Byte := s.mem.read a.toNat

/-! ### Registers and flags -/

/-- `x[i]` (R23). -/
def State.reg (s : State) : R8 → Byte
  | .B => s.B
  | .C => s.C
  | .D => s.D
  | .E => s.E
  | .H => s.H
  | .L => s.L
  | .A => s.A

/-- `x[i] <- v` -/
def State.setReg (s : State) (r : R8) (v : Byte) : State :=
  match r with
  | .B => { s with B := v }
  | .C => { s with C := v }
  | .D => { s with D := v }
  | .E => { s with E := v }
  | .H => { s with H := v }
  | .L => { s with L := v }
  | .A => { s with A := v }

/-- F as it is read: the low four bits are zero (R12). -/
def State.readF (s : State) : Byte := s.F &&& 0xF0

/-- A write of F stores `v & 0xF0` (R12). -/
def State.writeF (s : State) (v : Byte) : State := { s with F := v &&& 0xF0 }

/-- Zero flag (R13). -/
def State.fZ (s : State) : Bool := s.F.getLsbD 7

/-- Subtract flag (R13). -/
def State.fN (s : State) : Bool := s.F.getLsbD 6

/-- Half-carry flag (R13). -/
def State.fH (s : State) : Bool := s.F.getLsbD 5

/-- Carry flag (R13). -/
def State.fC (s : State) : Bool := s.F.getLsbD 4

/-! A pair is its two registers, the high one first (R11). -/

def State.bc (s : State) : Word := joinBytes s.B s.C

def State.de (s : State) : Word := joinBytes s.D s.E

def State.hl (s : State) : Word := joinBytes s.H s.L

def State.af (s : State) : Word := joinBytes s.A s.readF

def State.setBC (s : State) (v : Word) : State := { s with B := hiByte v, C := loByte v }

def State.setDE (s : State) (v : Word) : State := { s with D := hiByte v, E := loByte v }

def State.setHL (s : State) (v : Word) : State := { s with H := hiByte v, L := loByte v }

/-- Writing AF masks the low four bits of F (R11, R12). -/
def State.setAF (s : State) (v : Word) : State := ({ s with A := hiByte v }).writeF (loByte v)

/-! ### Cycles (R43) -/

/-- `Internal(n)`: charge n machine cycles and nothing else. -/
def State.internal (s : State) (n : Nat) : State := { s with cycles := s.cycles + BitVec.ofNat 8 n }

/-! ### The memory port (R31, R32) -/

/-- What stands behind an address: the first region that holds it decides, and an address in none is
plain RAM (decision D15). -/
def kindIn (regions : List Region) (a : Word) : FacadeKind :=
  match regions with
  | [] => .ram
  | r :: rest => if r.first ≤ a ∧ a ≤ r.last then r.kind else kindIn rest a

/-- What stands behind an address of this machine. -/
def State.kindAt (s : State) (a : Word) : FacadeKind := kindIn s.cfg.regions a

/-- The access as a device's facade sees it in this state. -/
def State.deviceCall (s : State) (x : Access) : DeviceCall where
  access := x
  facade := s.facade
  stored := s.mem
  IE := s.IE
  IF := s.IF
  nth := s.asked

/-- The side effect of an access to a device: the facade's own state moves on (R31, R32), and the facade may
have used the interrupt-register port (`60_exceptions.md` R163 case 2), so IE and IF are what it left. -/
def State.afterDevice (s : State) (x : Access) : State :=
  { s with
    facade := Config.deviceState (s.deviceCall x)
    IE := Config.deviceIE (s.deviceCall x)
    IF := Config.deviceIF (s.deviceCall x)
    asked := s.asked + 1 }

/-- `MemRead(addr, 1)` (R31): the byte the facade answers, one machine cycle, and the side effects the
facade has. -/
def State.memRead (s : State) (a : Word) : Byte × State :=
  match s.kindAt a with
  | .ram => (s.byteAt a, s.internal 1)
  | .rom => (s.byteAt a, s.internal 1)
  | .portIE => (s.IE, s.internal 1)
  | .portIF => (s.IF, s.internal 1)
  | .device => (Config.deviceByte (s.deviceCall (.read a)), (s.internal 1).afterDevice (.read a))

/-- `MemWrite(addr, 1, v)` (R32): stored, ignored, routed to the interrupt-register port, or a device's
business; one machine cycle. -/
def State.memWrite (s : State) (a : Word) (v : Byte) : State :=
  match s.kindAt a with
  | .ram => { s.internal 1 with mem := s.mem.write a.toNat v }
  | .rom => s.internal 1
  | .portIE => { s.internal 1 with IE := v }
  | .portIF => { s.internal 1 with IF := v }
  | .device => (s.internal 1).afterDevice (.write a v)

/-- `MemWrite(addr, 2, v)` (R33): low byte at addr, then high byte at mod16(addr+1). -/
def State.memWriteWord (s : State) (a : Word) (v : Word) : State :=
  (s.memWrite a (loByte v)).memWrite (a + 1) (hiByte v)

/-- `MemRead(addr, 2)` (R33). -/
def State.memReadWord (s : State) (a : Word) : Word × State :=
  let (lo, s1) := s.memRead a
  let (hi, s2) := s1.memRead (a + 1)
  (joinBytes hi lo, s2)

/-- `Fetch8()` (R37): read the byte at pc, then advance pc. -/
def State.fetch8 (s : State) : Byte × State :=
  let (v, s1) := s.memRead s.pc
  (v, { s1 with pc := s1.pc + 1 })

/-! ### The stack (R44) -/

/-- The two descending writes of a push: high byte to sp-1, low byte to sp-2. -/
def State.pushBytes (s : State) (v : Word) : State :=
  let s1 := { s with sp := s.sp - 1 }
  let s2 := s1.memWrite s1.sp (hiByte v)
  let s3 := { s2 with sp := s2.sp - 1 }
  s3.memWrite s3.sp (loByte v)

/-- `PushWord(v)`: one internal cycle, then the two writes. -/
def State.pushWord (s : State) (v : Word) : State := (s.internal 1).pushBytes v

/-- `PopWord()`: low byte, then high byte, sp advanced after each read. -/
def State.popWord (s : State) : Word × State :=
  let (lo, s1) := s.memRead s.sp
  let s2 := { s1 with sp := s1.sp + 1 }
  let (hi, s3) := s2.memRead s2.sp
  (joinBytes hi lo, { s3 with sp := s3.sp + 1 })

/-! ### Interrupts: sources, arbiter, dispatch and return (`60_exceptions.md`) -/

/-- The source's bit of IE and IF (R161). -/
def Source.bit : Source → Nat
  | .vblank => 0
  | .videoStatus => 1
  | .timer => 2
  | .serial => 3
  | .input => 4

/-- `1 << n` (R161). -/
def Source.mask (n : Source) : Byte := 1 <<< n.bit

/-- The service address `VEC[n]` (R168). -/
def Source.vector : Source → Word
  | .vblank => 0x0040
  | .videoStatus => 0x0048
  | .timer => 0x0050
  | .serial => 0x0058
  | .input => 0x0060

/-- `req = IE & IF & 0x1F` (R162). -/
def State.requests (s : State) : Byte := s.IE &&& s.IF &&& 0x1F

/-- The lowest-numbered set bit among the five (R166). -/
def lowestSource (req : Byte) : Option Source :=
  if req.getLsbD 0 then some .vblank
  else if req.getLsbD 1 then some .videoStatus
  else if req.getLsbD 2 then some .timer
  else if req.getLsbD 3 then some .serial
  else if req.getLsbD 4 then some .input
  else none

/-- The source the controller dispatches at the start of a tick, if any: the gate is set and an enabled
source is pending (R165, R166). -/
def State.selected (s : State) : Option Source := if s.IME then lowestSource s.requests else none

/-- `Dispatch(n)` (R167), the one way control is diverted: the gate and the source's pending bit are
cleared, the current pc is pushed, pc becomes the service address, and `cycles` is set, not added to
(R169). No register but sp is saved or changed. -/
def State.dispatch (s : State) (n : Source) : State :=
  let s1 := { s with IME := false, IF := s.IF &&& ~~~ n.mask }
  let s2 := s1.pushBytes s1.pc
  { s2 with pc := n.vector, cycles := s2.cfg.dispatchCycles }

/-- The return: pop the address into pc (R143: `a <- PopWord() ; pc <- a ; Internal(1)`). -/
def State.returnToCaller (s : State) : State :=
  let (a, s1) := s.popWord
  { s1 with pc := a }.internal 1

/-- The return from an interrupt handler (R145, R173): the same, and the gate is set. -/
def State.returnFromInterrupt (s : State) : State := { s.returnToCaller with IME := true }

/-! ### The interrupt-register port and the other moves of the environment -/

/-- `ReadIE()` (R163). -/
def State.readIE (s : State) : Byte := s.IE

/-- `ReadIF()` (R163). -/
def State.readIF (s : State) : Byte := s.IF

/-- `Reset()` (`70_reset_and_hazards.md` R185): the core's state as after power-on. The facade's memory and own
state, the parameters and the environment's later moves are not the core's and stay. -/
def State.applyReset (s : State) : State :=
  { State.powerOn s.cfg with mem := s.mem, facade := s.facade, asked := s.asked, inbox := s.inbox }

/-- One move of the environment between two ticks (R163, R185; `20_memory.md` R42). -/
def State.applyMove (s : State) : EnvMove → State
  | .writeIE v => { s with IE := v }
  | .writeIF v => { s with IF := v }
  | .requestInterrupt n => { s with IF := s.IF ||| n.mask }
  | .changeMemory a v => { s with mem := s.mem.write a.toNat v }
  | .changeFacade n => { s with facade := n }
  | .powerOnReset => s.applyReset

/-- A list of moves, in order. -/
def State.applyMoves (s : State) (moves : List EnvMove) : State := moves.foldl State.applyMove s

/-- The moves waiting for the coming tick are made, before it starts (`10_state.md` R28). -/
def State.environment (s : State) : State :=
  match s.inbox with
  | [] => s
  | moves :: later => { s with inbox := later }.applyMoves moves

/-- The first statement of `Tick` (R170): the counter is zeroed. -/
def State.beginTick (s : State) : State := { s with cycles := 0 }

end Sys2Proof.Machine
end

