-- ==== Sys2Proof/Machine/Flags.lean ====
section
/-! DEFINITION. Every result and flag computation of the core, as pure functions of the operands and the
old flags: 8-bit arithmetic and logic (`42_alu8.md`), 16-bit arithmetic (`43_alu16.md`,
`41_loads16_stack.md` R84), rotates, shifts and bit operations (`44_rotate_shift_bit.md`). Carries and
borrows are comparisons of the exact sums; results wrap (`10_state.md` R17). -/

namespace Sys2Proof.Machine

/-- The four flags (`10_state.md` R13). -/
structure Flags where
  z : Bool
  n : Bool
  h : Bool
  c : Bool
deriving DecidableEq, Repr

/-- F with these flags in bits 7 to 4 and zero below (R12, R13). -/
def Flags.toByte (f : Flags) : Byte :=
  BitVec.ofNat 8 (128 * f.z.toNat + 64 * f.n.toNat + 32 * f.h.toNat + 16 * f.c.toNat)

/-- The flags of a state. -/
def State.flags (s : State) : Flags := { z := s.fZ, n := s.fN, h := s.fH, c := s.fC }

/-- All four flags are written. -/
def State.setFlags (s : State) (f : Flags) : State := s.writeF f.toByte

/-- The low nibble of a byte, as a number. -/
def nibble (v : Byte) : Nat := v.toNat % 16

/-- The byte 1 or 0. -/
def bitByte (c : Bool) : Byte := BitVec.ofNat 8 c.toNat

/-! ### 8-bit arithmetic and logic -/

/-- `s <- A + v + c` (R91 with c = 0, R92). -/
def add8 (a v : Byte) (c : Bool) : Byte × Flags :=
  let r := a + v + bitByte c
  (r, { z := r == 0, n := false, h := nibble a + nibble v + c.toNat > 0xF, c := a.toNat + v.toNat + c.toNat > 0xFF })

/-- `d <- A - v - c` (R93 with c = 0, R94). -/
def sub8 (a v : Byte) (c : Bool) : Byte × Flags :=
  let r := a - v - bitByte c
  (r, { z := r == 0, n := true, h := nibble a < nibble v + c.toNat, c := a.toNat < v.toNat + c.toNat })

/-- The new A and the flags of an accumulator operation on (A, v, fC) (R91 to R98). `CP` leaves A. -/
def alu (op : AluOp) (a v : Byte) (c : Bool) : Byte × Flags :=
  match op with
  | .add => add8 a v false
  | .adc => add8 a v c
  | .sub => sub8 a v false
  | .sbc => sub8 a v c
  | .and => (a &&& v, { z := (a &&& v) == 0, n := false, h := true, c := false })
  | .xor => (a ^^^ v, { z := (a ^^^ v) == 0, n := false, h := false, c := false })
  | .or => (a ||| v, { z := (a ||| v) == 0, n := false, h := false, c := false })
  | .cp => (a, (sub8 a v false).2)

/-- `INC` of a byte (R99); fC unchanged. -/
def inc8 (old : Byte) (f : Flags) : Byte × Flags :=
  let r := old + 1
  (r, { z := r == 0, n := false, h := nibble old == 0xF, c := f.c })

/-- `DEC` of a byte (R101); fC unchanged. -/
def dec8 (old : Byte) (f : Flags) : Byte × Flags :=
  let r := old - 1
  (r, { z := r == 0, n := true, h := nibble old == 0, c := f.c })

/-- `DAA` (R103). Both tests of the addition branch use the value of A from before the instruction. -/
def daa (a : Byte) (f : Flags) : Byte × Flags :=
  if f.n then
    let adj : Byte := (if f.h then 0x06 else 0) ||| (if f.c then 0x60 else 0)
    let r := a - adj
    (r, { z := r == 0, n := f.n, h := false, c := f.c })
  else
    let low : Bool := f.h || decide (nibble a > 9)
    let high : Bool := f.c || decide (a.toNat > 0x99)
    let adj : Byte := (if low then 0x06 else 0) ||| (if high then 0x60 else 0)
    let r := a + adj
    (r, { z := r == 0, n := f.n, h := false, c := high })

/-! ### 16-bit arithmetic -/

/-- `ADD HL,rp` (R110); fZ unchanged. -/
def add16 (hl v : Word) (f : Flags) : Word × Flags :=
  (hl + v, { z := f.z, n := false, h := hl.toNat % 4096 + v.toNat % 4096 > 0xFFF, c := hl.toNat + v.toNat > 0xFFFF })

/-- `SP + e8` (R84, R113): the flags compare the low nibble and the low byte of the result with those
of sp, which is the carry of the unsigned low-byte addition. -/
def addSP (sp : Word) (e : Byte) : Word × Flags :=
  let r := sp + sext16 e
  (r, { z := false, n := false, h := r.toNat % 16 < sp.toNat % 16, c := r.toNat % 256 < sp.toNat % 256 })

/-! ### Rotates, shifts, bits -/

/-- The result and the bit that goes to carry of a rotate or shift (R120 to R127); `SWAP` clears carry. -/
def rotate (op : RotOp) (v : Byte) (c : Bool) : Byte × Bool :=
  match op with
  | .rlc => ((v <<< 1) ||| bitByte (v.getLsbD 7), v.getLsbD 7)
  | .rrc => ((v >>> 1) ||| (bitByte (v.getLsbD 0) <<< 7), v.getLsbD 0)
  | .rl => ((v <<< 1) ||| bitByte c, v.getLsbD 7)
  | .rr => ((v >>> 1) ||| (bitByte c <<< 7), v.getLsbD 0)
  | .sla => (v <<< 1, v.getLsbD 7)
  | .sra => ((v >>> 1) ||| (v &&& 0x80), v.getLsbD 0)
  | .swap => ((v <<< 4) ||| (v >>> 4), false)
  | .srl => (v >>> 1, v.getLsbD 0)

/-- The extended table's rotates: fZ from the result (R120 to R127). -/
def rotateFlags (op : RotOp) (v : Byte) (c : Bool) : Byte × Flags :=
  let (r, out) := rotate op v c
  (r, { z := r == 0, n := false, h := false, c := out })

/-- The accumulator rotates of the base table: fZ cleared always (R115 to R118). -/
def rotateAFlags (op : RotOp) (v : Byte) (c : Bool) : Byte × Flags :=
  let (r, out) := rotate op v c
  (r, { z := false, n := false, h := false, c := out })

/-- The flags of `BIT b,v`: fZ = 1 when the bit is 0; fC unchanged (R128). -/
def bitFlags (b : Fin 8) (v : Byte) (f : Flags) : Flags :=
  { z := !v.getLsbD b.val, n := false, h := true, c := f.c }

/-- `v & ~(1 << b)` (R129). -/
def resetBit (b : Fin 8) (v : Byte) : Byte := v &&& ~~~ ((1 : Byte) <<< b.val)

/-- `v | (1 << b)` (R130). -/
def setBit (b : Fin 8) (v : Byte) : Byte := v ||| ((1 : Byte) <<< b.val)

end Sys2Proof.Machine
end

