-- ==== Sys2Proof/Machine/Operands.lean ====
section
/-! DEFINITION. The operand forms: the accessors `Rd8` and `Wr8`, the pair tables `xp` and `xq`
(`10_state.md` R23), the conditions (`45_control.md` R135) and the addresses of the I/O page
(`40_loads8.md` R73 to R76). -/

namespace Sys2Proof.Machine

/-- `Rd8(i)`: a register, or for index 6 one read of the byte at HL (R23). -/
def State.rd8 (s : State) : Opnd → Byte × State
  | .reg r => (s.reg r, s)
  | .mHL => s.memRead s.hl

/-- `Wr8(i, v)`: a register, or for index 6 one write of the byte at HL (R23). -/
def State.wr8 (s : State) (o : Opnd) (v : Byte) : State :=
  match o with
  | .reg r => s.setReg r v
  | .mHL => s.memWrite s.hl v

/-- `xp[p]` (R23). -/
def State.rp (s : State) : RP → Word
  | .BC => s.bc
  | .DE => s.de
  | .HL => s.hl
  | .SP => s.sp

/-- `xp[p] <- v` -/
def State.setRp (s : State) (p : RP) (v : Word) : State :=
  match p with
  | .BC => s.setBC v
  | .DE => s.setDE v
  | .HL => s.setHL v
  | .SP => { s with sp := v }

/-- `xq[p]` (R23). -/
def State.rq (s : State) : RQ → Word
  | .BC => s.bc
  | .DE => s.de
  | .HL => s.hl
  | .AF => s.af

/-- `xq[p] <- v` -/
def State.setRq (s : State) (p : RQ) (v : Word) : State :=
  match p with
  | .BC => s.setBC v
  | .DE => s.setDE v
  | .HL => s.setHL v
  | .AF => s.setAF v

/-- `Cond(c)` on the current flags (R135). -/
def State.cond (s : State) : Cond → Bool
  | .NZ => !s.fZ
  | .Z => s.fZ
  | .NC => !s.fC
  | .C => s.fC

/-- `0xFF00 + n`: an address of the I/O page (R73 to R76). -/
def ioAddress (n : Byte) : Word := joinBytes 0xFF n

end Sys2Proof.Machine
end

