-- ==== Sys2Proof/Machine/Alu16.lean ====
section
/-! DEFINITION. The 16-bit arithmetic instructions (`43_alu16.md`). -/

namespace Sys2Proof.Machine

/-- `HL <- HL + v` with its flags, and one internal cycle (R110). -/
def addToHL (s : State) (v : Word) : State :=
  let (r, f) := add16 s.hl v s.flags
  ((s.setHL r).setFlags f).internal 1

/-- `sp <- SP + e8` with its flags, and two internal cycles (R113). -/
def addToSP (s : State) (e : Byte) : State :=
  let (r, f) := addSP s.sp e
  ({ s with sp := r }.setFlags f).internal 2

/-! `ADD HL,rp` (R110) -/

def execAdd_HL_BC (s : State) : Result := .next (addToHL s (s.rp .BC))

def execAdd_HL_DE (s : State) : Result := .next (addToHL s (s.rp .DE))

def execAdd_HL_HL (s : State) : Result := .next (addToHL s (s.rp .HL))

def execAdd_HL_SP (s : State) : Result := .next (addToHL s (s.rp .SP))

/-! `INC rp` (R111) -/

def execInc_BC (s : State) : Result := .next ((s.setRp .BC (s.rp .BC + 1)).internal 1)

def execInc_DE (s : State) : Result := .next ((s.setRp .DE (s.rp .DE + 1)).internal 1)

def execInc_HL (s : State) : Result := .next ((s.setRp .HL (s.rp .HL + 1)).internal 1)

def execInc_SP (s : State) : Result := .next ((s.setRp .SP (s.rp .SP + 1)).internal 1)

/-! `DEC rp` (R112) -/

def execDec_BC (s : State) : Result := .next ((s.setRp .BC (s.rp .BC - 1)).internal 1)

def execDec_DE (s : State) : Result := .next ((s.setRp .DE (s.rp .DE - 1)).internal 1)

def execDec_HL (s : State) : Result := .next ((s.setRp .HL (s.rp .HL - 1)).internal 1)

def execDec_SP (s : State) : Result := .next ((s.setRp .SP (s.rp .SP - 1)).internal 1)

/-! `ADD SP,e8` (R113) -/

def execAdd_SP_e8 (e8 : Byte) (s : State) : Result := .next (addToSP s e8)


end Sys2Proof.Machine
end

