-- ==== Sys2Proof/Machine/Alu8.lean ====
section
/-! DEFINITION. The 8-bit arithmetic and logic instructions (`42_alu8.md`). -/

namespace Sys2Proof.Machine

/-- An accumulator operation on A and `v` (R90 to R98). -/
def accumulate (s : State) (op : AluOp) (v : Byte) : State :=
  let (r, f) := alu op s.A v s.fC
  (s.setReg .A r).setFlags f

/-- An accumulator operation whose operand is a register or the byte at HL, obtained first (R90). -/
def accumulateOpnd (s : State) (op : AluOp) (o : Opnd) : State :=
  let (v, s1) := s.rd8 o
  accumulate s1 op v

/-- `INC` of a register or of the byte at HL: one read, then one write (R99, R100). -/
def incOpnd (s : State) (o : Opnd) : State :=
  let (old, s1) := s.rd8 o
  let (r, f) := inc8 old s1.flags
  (s1.wr8 o r).setFlags f

/-- `DEC` of a register or of the byte at HL (R101, R102). -/
def decOpnd (s : State) (o : Opnd) : State :=
  let (old, s1) := s.rd8 o
  let (r, f) := dec8 old s1.flags
  (s1.wr8 o r).setFlags f

/-- `DAA` (R103). -/
def decimalAdjust (s : State) : State :=
  let (r, f) := daa s.A s.flags
  (s.setReg .A r).setFlags f

/-! `ADD A,v` (R91) -/

def execAdd_A_B (s : State) : Result := .next (accumulateOpnd s .add (.reg .B))

def execAdd_A_C (s : State) : Result := .next (accumulateOpnd s .add (.reg .C))

def execAdd_A_D (s : State) : Result := .next (accumulateOpnd s .add (.reg .D))

def execAdd_A_E (s : State) : Result := .next (accumulateOpnd s .add (.reg .E))

def execAdd_A_H (s : State) : Result := .next (accumulateOpnd s .add (.reg .H))

def execAdd_A_L (s : State) : Result := .next (accumulateOpnd s .add (.reg .L))

def execAdd_A_mHL (s : State) : Result := .next (accumulateOpnd s .add .mHL)

def execAdd_A_A (s : State) : Result := .next (accumulateOpnd s .add (.reg .A))

def execAdd_A_d8 (d8 : Byte) (s : State) : Result := .next (accumulate s .add d8)

/-! `ADC A,v` (R92) -/

def execAdc_A_B (s : State) : Result := .next (accumulateOpnd s .adc (.reg .B))

def execAdc_A_C (s : State) : Result := .next (accumulateOpnd s .adc (.reg .C))

def execAdc_A_D (s : State) : Result := .next (accumulateOpnd s .adc (.reg .D))

def execAdc_A_E (s : State) : Result := .next (accumulateOpnd s .adc (.reg .E))

def execAdc_A_H (s : State) : Result := .next (accumulateOpnd s .adc (.reg .H))

def execAdc_A_L (s : State) : Result := .next (accumulateOpnd s .adc (.reg .L))

def execAdc_A_mHL (s : State) : Result := .next (accumulateOpnd s .adc .mHL)

def execAdc_A_A (s : State) : Result := .next (accumulateOpnd s .adc (.reg .A))

def execAdc_A_d8 (d8 : Byte) (s : State) : Result := .next (accumulate s .adc d8)

/-! `SUB A,v` (R93) -/

def execSub_A_B (s : State) : Result := .next (accumulateOpnd s .sub (.reg .B))

def execSub_A_C (s : State) : Result := .next (accumulateOpnd s .sub (.reg .C))

def execSub_A_D (s : State) : Result := .next (accumulateOpnd s .sub (.reg .D))

def execSub_A_E (s : State) : Result := .next (accumulateOpnd s .sub (.reg .E))

def execSub_A_H (s : State) : Result := .next (accumulateOpnd s .sub (.reg .H))

def execSub_A_L (s : State) : Result := .next (accumulateOpnd s .sub (.reg .L))

def execSub_A_mHL (s : State) : Result := .next (accumulateOpnd s .sub .mHL)

def execSub_A_A (s : State) : Result := .next (accumulateOpnd s .sub (.reg .A))

def execSub_A_d8 (d8 : Byte) (s : State) : Result := .next (accumulate s .sub d8)

/-! `SBC A,v` (R94) -/

def execSbc_A_B (s : State) : Result := .next (accumulateOpnd s .sbc (.reg .B))

def execSbc_A_C (s : State) : Result := .next (accumulateOpnd s .sbc (.reg .C))

def execSbc_A_D (s : State) : Result := .next (accumulateOpnd s .sbc (.reg .D))

def execSbc_A_E (s : State) : Result := .next (accumulateOpnd s .sbc (.reg .E))

def execSbc_A_H (s : State) : Result := .next (accumulateOpnd s .sbc (.reg .H))

def execSbc_A_L (s : State) : Result := .next (accumulateOpnd s .sbc (.reg .L))

def execSbc_A_mHL (s : State) : Result := .next (accumulateOpnd s .sbc .mHL)

def execSbc_A_A (s : State) : Result := .next (accumulateOpnd s .sbc (.reg .A))

def execSbc_A_d8 (d8 : Byte) (s : State) : Result := .next (accumulate s .sbc d8)

/-! `AND A,v` (R95) -/

def execAnd_A_B (s : State) : Result := .next (accumulateOpnd s .and (.reg .B))

def execAnd_A_C (s : State) : Result := .next (accumulateOpnd s .and (.reg .C))

def execAnd_A_D (s : State) : Result := .next (accumulateOpnd s .and (.reg .D))

def execAnd_A_E (s : State) : Result := .next (accumulateOpnd s .and (.reg .E))

def execAnd_A_H (s : State) : Result := .next (accumulateOpnd s .and (.reg .H))

def execAnd_A_L (s : State) : Result := .next (accumulateOpnd s .and (.reg .L))

def execAnd_A_mHL (s : State) : Result := .next (accumulateOpnd s .and .mHL)

def execAnd_A_A (s : State) : Result := .next (accumulateOpnd s .and (.reg .A))

def execAnd_A_d8 (d8 : Byte) (s : State) : Result := .next (accumulate s .and d8)

/-! `XOR A,v` (R96) -/

def execXor_A_B (s : State) : Result := .next (accumulateOpnd s .xor (.reg .B))

def execXor_A_C (s : State) : Result := .next (accumulateOpnd s .xor (.reg .C))

def execXor_A_D (s : State) : Result := .next (accumulateOpnd s .xor (.reg .D))

def execXor_A_E (s : State) : Result := .next (accumulateOpnd s .xor (.reg .E))

def execXor_A_H (s : State) : Result := .next (accumulateOpnd s .xor (.reg .H))

def execXor_A_L (s : State) : Result := .next (accumulateOpnd s .xor (.reg .L))

def execXor_A_mHL (s : State) : Result := .next (accumulateOpnd s .xor .mHL)

def execXor_A_A (s : State) : Result := .next (accumulateOpnd s .xor (.reg .A))

def execXor_A_d8 (d8 : Byte) (s : State) : Result := .next (accumulate s .xor d8)

/-! `OR A,v` (R97) -/

def execOr_A_B (s : State) : Result := .next (accumulateOpnd s .or (.reg .B))

def execOr_A_C (s : State) : Result := .next (accumulateOpnd s .or (.reg .C))

def execOr_A_D (s : State) : Result := .next (accumulateOpnd s .or (.reg .D))

def execOr_A_E (s : State) : Result := .next (accumulateOpnd s .or (.reg .E))

def execOr_A_H (s : State) : Result := .next (accumulateOpnd s .or (.reg .H))

def execOr_A_L (s : State) : Result := .next (accumulateOpnd s .or (.reg .L))

def execOr_A_mHL (s : State) : Result := .next (accumulateOpnd s .or .mHL)

def execOr_A_A (s : State) : Result := .next (accumulateOpnd s .or (.reg .A))

def execOr_A_d8 (d8 : Byte) (s : State) : Result := .next (accumulate s .or d8)

/-! `CP A,v` (R98) -/

def execCp_A_B (s : State) : Result := .next (accumulateOpnd s .cp (.reg .B))

def execCp_A_C (s : State) : Result := .next (accumulateOpnd s .cp (.reg .C))

def execCp_A_D (s : State) : Result := .next (accumulateOpnd s .cp (.reg .D))

def execCp_A_E (s : State) : Result := .next (accumulateOpnd s .cp (.reg .E))

def execCp_A_H (s : State) : Result := .next (accumulateOpnd s .cp (.reg .H))

def execCp_A_L (s : State) : Result := .next (accumulateOpnd s .cp (.reg .L))

def execCp_A_mHL (s : State) : Result := .next (accumulateOpnd s .cp .mHL)

def execCp_A_A (s : State) : Result := .next (accumulateOpnd s .cp (.reg .A))

def execCp_A_d8 (d8 : Byte) (s : State) : Result := .next (accumulate s .cp d8)

/-! `INC r`, `INC (HL)` (R99, R100) -/

def execInc_B (s : State) : Result := .next (incOpnd s (.reg .B))

def execInc_C (s : State) : Result := .next (incOpnd s (.reg .C))

def execInc_D (s : State) : Result := .next (incOpnd s (.reg .D))

def execInc_E (s : State) : Result := .next (incOpnd s (.reg .E))

def execInc_H (s : State) : Result := .next (incOpnd s (.reg .H))

def execInc_L (s : State) : Result := .next (incOpnd s (.reg .L))

def execInc_mHL (s : State) : Result := .next (incOpnd s .mHL)

def execInc_A (s : State) : Result := .next (incOpnd s (.reg .A))

/-! `DEC r`, `DEC (HL)` (R101, R102) -/

def execDec_B (s : State) : Result := .next (decOpnd s (.reg .B))

def execDec_C (s : State) : Result := .next (decOpnd s (.reg .C))

def execDec_D (s : State) : Result := .next (decOpnd s (.reg .D))

def execDec_E (s : State) : Result := .next (decOpnd s (.reg .E))

def execDec_H (s : State) : Result := .next (decOpnd s (.reg .H))

def execDec_L (s : State) : Result := .next (decOpnd s (.reg .L))

def execDec_mHL (s : State) : Result := .next (decOpnd s .mHL)

def execDec_A (s : State) : Result := .next (decOpnd s (.reg .A))

/-! `DAA`, `CPL`, `SCF`, `CCF` (R103 to R106) -/

def execDaa (s : State) : Result := .next (decimalAdjust s)

def execCpl (s : State) : Result := .next ((s.setReg .A (s.A ^^^ 0xFF)).setFlags { s.flags with n := true, h := true })

def execScf (s : State) : Result := .next (s.setFlags { s.flags with n := false, h := false, c := true })

def execCcf (s : State) : Result := .next (s.setFlags { s.flags with n := false, h := false, c := !s.fC })


end Sys2Proof.Machine
end

