-- ==== Sys2Proof/Machine/Bits.lean ====
section
/-! DEFINITION. The bit instructions of the extended table (`44_rotate_shift_bit.md` section 4). -/

namespace Sys2Proof.Machine

/-- `BIT b,v`: the operand is read and nothing is written back (R128). -/
def testBit (s : State) (b : Fin 8) (o : Opnd) : State :=
  let (v, s1) := s.rd8 o
  s1.setFlags (bitFlags b v s1.flags)

/-- `RES b,v`: read, clear the bit, write (R129). -/
def resetBitOpnd (s : State) (b : Fin 8) (o : Opnd) : State :=
  let (v, s1) := s.rd8 o
  s1.wr8 o (resetBit b v)

/-- `SET b,v`: read, set the bit, write (R130). -/
def setBitOpnd (s : State) (b : Fin 8) (o : Opnd) : State :=
  let (v, s1) := s.rd8 o
  s1.wr8 o (setBit b v)

/-! `BIT b,v` (R128) -/

def execBit_0_B (s : State) : Result := .next (testBit s 0 (.reg .B))

def execBit_0_C (s : State) : Result := .next (testBit s 0 (.reg .C))

def execBit_0_D (s : State) : Result := .next (testBit s 0 (.reg .D))

def execBit_0_E (s : State) : Result := .next (testBit s 0 (.reg .E))

def execBit_0_H (s : State) : Result := .next (testBit s 0 (.reg .H))

def execBit_0_L (s : State) : Result := .next (testBit s 0 (.reg .L))

def execBit_0_mHL (s : State) : Result := .next (testBit s 0 .mHL)

def execBit_0_A (s : State) : Result := .next (testBit s 0 (.reg .A))

def execBit_1_B (s : State) : Result := .next (testBit s 1 (.reg .B))

def execBit_1_C (s : State) : Result := .next (testBit s 1 (.reg .C))

def execBit_1_D (s : State) : Result := .next (testBit s 1 (.reg .D))

def execBit_1_E (s : State) : Result := .next (testBit s 1 (.reg .E))

def execBit_1_H (s : State) : Result := .next (testBit s 1 (.reg .H))

def execBit_1_L (s : State) : Result := .next (testBit s 1 (.reg .L))

def execBit_1_mHL (s : State) : Result := .next (testBit s 1 .mHL)

def execBit_1_A (s : State) : Result := .next (testBit s 1 (.reg .A))

def execBit_2_B (s : State) : Result := .next (testBit s 2 (.reg .B))

def execBit_2_C (s : State) : Result := .next (testBit s 2 (.reg .C))

def execBit_2_D (s : State) : Result := .next (testBit s 2 (.reg .D))

def execBit_2_E (s : State) : Result := .next (testBit s 2 (.reg .E))

def execBit_2_H (s : State) : Result := .next (testBit s 2 (.reg .H))

def execBit_2_L (s : State) : Result := .next (testBit s 2 (.reg .L))

def execBit_2_mHL (s : State) : Result := .next (testBit s 2 .mHL)

def execBit_2_A (s : State) : Result := .next (testBit s 2 (.reg .A))

def execBit_3_B (s : State) : Result := .next (testBit s 3 (.reg .B))

def execBit_3_C (s : State) : Result := .next (testBit s 3 (.reg .C))

def execBit_3_D (s : State) : Result := .next (testBit s 3 (.reg .D))

def execBit_3_E (s : State) : Result := .next (testBit s 3 (.reg .E))

def execBit_3_H (s : State) : Result := .next (testBit s 3 (.reg .H))

def execBit_3_L (s : State) : Result := .next (testBit s 3 (.reg .L))

def execBit_3_mHL (s : State) : Result := .next (testBit s 3 .mHL)

def execBit_3_A (s : State) : Result := .next (testBit s 3 (.reg .A))

def execBit_4_B (s : State) : Result := .next (testBit s 4 (.reg .B))

def execBit_4_C (s : State) : Result := .next (testBit s 4 (.reg .C))

def execBit_4_D (s : State) : Result := .next (testBit s 4 (.reg .D))

def execBit_4_E (s : State) : Result := .next (testBit s 4 (.reg .E))

def execBit_4_H (s : State) : Result := .next (testBit s 4 (.reg .H))

def execBit_4_L (s : State) : Result := .next (testBit s 4 (.reg .L))

def execBit_4_mHL (s : State) : Result := .next (testBit s 4 .mHL)

def execBit_4_A (s : State) : Result := .next (testBit s 4 (.reg .A))

def execBit_5_B (s : State) : Result := .next (testBit s 5 (.reg .B))

def execBit_5_C (s : State) : Result := .next (testBit s 5 (.reg .C))

def execBit_5_D (s : State) : Result := .next (testBit s 5 (.reg .D))

def execBit_5_E (s : State) : Result := .next (testBit s 5 (.reg .E))

def execBit_5_H (s : State) : Result := .next (testBit s 5 (.reg .H))

def execBit_5_L (s : State) : Result := .next (testBit s 5 (.reg .L))

def execBit_5_mHL (s : State) : Result := .next (testBit s 5 .mHL)

def execBit_5_A (s : State) : Result := .next (testBit s 5 (.reg .A))

def execBit_6_B (s : State) : Result := .next (testBit s 6 (.reg .B))

def execBit_6_C (s : State) : Result := .next (testBit s 6 (.reg .C))

def execBit_6_D (s : State) : Result := .next (testBit s 6 (.reg .D))

def execBit_6_E (s : State) : Result := .next (testBit s 6 (.reg .E))

def execBit_6_H (s : State) : Result := .next (testBit s 6 (.reg .H))

def execBit_6_L (s : State) : Result := .next (testBit s 6 (.reg .L))

def execBit_6_mHL (s : State) : Result := .next (testBit s 6 .mHL)

def execBit_6_A (s : State) : Result := .next (testBit s 6 (.reg .A))

def execBit_7_B (s : State) : Result := .next (testBit s 7 (.reg .B))

def execBit_7_C (s : State) : Result := .next (testBit s 7 (.reg .C))

def execBit_7_D (s : State) : Result := .next (testBit s 7 (.reg .D))

def execBit_7_E (s : State) : Result := .next (testBit s 7 (.reg .E))

def execBit_7_H (s : State) : Result := .next (testBit s 7 (.reg .H))

def execBit_7_L (s : State) : Result := .next (testBit s 7 (.reg .L))

def execBit_7_mHL (s : State) : Result := .next (testBit s 7 .mHL)

def execBit_7_A (s : State) : Result := .next (testBit s 7 (.reg .A))

/-! `RES b,v` (R129) -/

def execRes_0_B (s : State) : Result := .next (resetBitOpnd s 0 (.reg .B))

def execRes_0_C (s : State) : Result := .next (resetBitOpnd s 0 (.reg .C))

def execRes_0_D (s : State) : Result := .next (resetBitOpnd s 0 (.reg .D))

def execRes_0_E (s : State) : Result := .next (resetBitOpnd s 0 (.reg .E))

def execRes_0_H (s : State) : Result := .next (resetBitOpnd s 0 (.reg .H))

def execRes_0_L (s : State) : Result := .next (resetBitOpnd s 0 (.reg .L))

def execRes_0_mHL (s : State) : Result := .next (resetBitOpnd s 0 .mHL)

def execRes_0_A (s : State) : Result := .next (resetBitOpnd s 0 (.reg .A))

def execRes_1_B (s : State) : Result := .next (resetBitOpnd s 1 (.reg .B))

def execRes_1_C (s : State) : Result := .next (resetBitOpnd s 1 (.reg .C))

def execRes_1_D (s : State) : Result := .next (resetBitOpnd s 1 (.reg .D))

def execRes_1_E (s : State) : Result := .next (resetBitOpnd s 1 (.reg .E))

def execRes_1_H (s : State) : Result := .next (resetBitOpnd s 1 (.reg .H))

def execRes_1_L (s : State) : Result := .next (resetBitOpnd s 1 (.reg .L))

def execRes_1_mHL (s : State) : Result := .next (resetBitOpnd s 1 .mHL)

def execRes_1_A (s : State) : Result := .next (resetBitOpnd s 1 (.reg .A))

def execRes_2_B (s : State) : Result := .next (resetBitOpnd s 2 (.reg .B))

def execRes_2_C (s : State) : Result := .next (resetBitOpnd s 2 (.reg .C))

def execRes_2_D (s : State) : Result := .next (resetBitOpnd s 2 (.reg .D))

def execRes_2_E (s : State) : Result := .next (resetBitOpnd s 2 (.reg .E))

def execRes_2_H (s : State) : Result := .next (resetBitOpnd s 2 (.reg .H))

def execRes_2_L (s : State) : Result := .next (resetBitOpnd s 2 (.reg .L))

def execRes_2_mHL (s : State) : Result := .next (resetBitOpnd s 2 .mHL)

def execRes_2_A (s : State) : Result := .next (resetBitOpnd s 2 (.reg .A))

def execRes_3_B (s : State) : Result := .next (resetBitOpnd s 3 (.reg .B))

def execRes_3_C (s : State) : Result := .next (resetBitOpnd s 3 (.reg .C))

def execRes_3_D (s : State) : Result := .next (resetBitOpnd s 3 (.reg .D))

def execRes_3_E (s : State) : Result := .next (resetBitOpnd s 3 (.reg .E))

def execRes_3_H (s : State) : Result := .next (resetBitOpnd s 3 (.reg .H))

def execRes_3_L (s : State) : Result := .next (resetBitOpnd s 3 (.reg .L))

def execRes_3_mHL (s : State) : Result := .next (resetBitOpnd s 3 .mHL)

def execRes_3_A (s : State) : Result := .next (resetBitOpnd s 3 (.reg .A))

def execRes_4_B (s : State) : Result := .next (resetBitOpnd s 4 (.reg .B))

def execRes_4_C (s : State) : Result := .next (resetBitOpnd s 4 (.reg .C))

def execRes_4_D (s : State) : Result := .next (resetBitOpnd s 4 (.reg .D))

def execRes_4_E (s : State) : Result := .next (resetBitOpnd s 4 (.reg .E))

def execRes_4_H (s : State) : Result := .next (resetBitOpnd s 4 (.reg .H))

def execRes_4_L (s : State) : Result := .next (resetBitOpnd s 4 (.reg .L))

def execRes_4_mHL (s : State) : Result := .next (resetBitOpnd s 4 .mHL)

def execRes_4_A (s : State) : Result := .next (resetBitOpnd s 4 (.reg .A))

def execRes_5_B (s : State) : Result := .next (resetBitOpnd s 5 (.reg .B))

def execRes_5_C (s : State) : Result := .next (resetBitOpnd s 5 (.reg .C))

def execRes_5_D (s : State) : Result := .next (resetBitOpnd s 5 (.reg .D))

def execRes_5_E (s : State) : Result := .next (resetBitOpnd s 5 (.reg .E))

def execRes_5_H (s : State) : Result := .next (resetBitOpnd s 5 (.reg .H))

def execRes_5_L (s : State) : Result := .next (resetBitOpnd s 5 (.reg .L))

def execRes_5_mHL (s : State) : Result := .next (resetBitOpnd s 5 .mHL)

def execRes_5_A (s : State) : Result := .next (resetBitOpnd s 5 (.reg .A))

def execRes_6_B (s : State) : Result := .next (resetBitOpnd s 6 (.reg .B))

def execRes_6_C (s : State) : Result := .next (resetBitOpnd s 6 (.reg .C))

def execRes_6_D (s : State) : Result := .next (resetBitOpnd s 6 (.reg .D))

def execRes_6_E (s : State) : Result := .next (resetBitOpnd s 6 (.reg .E))

def execRes_6_H (s : State) : Result := .next (resetBitOpnd s 6 (.reg .H))

def execRes_6_L (s : State) : Result := .next (resetBitOpnd s 6 (.reg .L))

def execRes_6_mHL (s : State) : Result := .next (resetBitOpnd s 6 .mHL)

def execRes_6_A (s : State) : Result := .next (resetBitOpnd s 6 (.reg .A))

def execRes_7_B (s : State) : Result := .next (resetBitOpnd s 7 (.reg .B))

def execRes_7_C (s : State) : Result := .next (resetBitOpnd s 7 (.reg .C))

def execRes_7_D (s : State) : Result := .next (resetBitOpnd s 7 (.reg .D))

def execRes_7_E (s : State) : Result := .next (resetBitOpnd s 7 (.reg .E))

def execRes_7_H (s : State) : Result := .next (resetBitOpnd s 7 (.reg .H))

def execRes_7_L (s : State) : Result := .next (resetBitOpnd s 7 (.reg .L))

def execRes_7_mHL (s : State) : Result := .next (resetBitOpnd s 7 .mHL)

def execRes_7_A (s : State) : Result := .next (resetBitOpnd s 7 (.reg .A))

/-! `SET b,v` (R130) -/

def execSet_0_B (s : State) : Result := .next (setBitOpnd s 0 (.reg .B))

def execSet_0_C (s : State) : Result := .next (setBitOpnd s 0 (.reg .C))

def execSet_0_D (s : State) : Result := .next (setBitOpnd s 0 (.reg .D))

def execSet_0_E (s : State) : Result := .next (setBitOpnd s 0 (.reg .E))

def execSet_0_H (s : State) : Result := .next (setBitOpnd s 0 (.reg .H))

def execSet_0_L (s : State) : Result := .next (setBitOpnd s 0 (.reg .L))

def execSet_0_mHL (s : State) : Result := .next (setBitOpnd s 0 .mHL)

def execSet_0_A (s : State) : Result := .next (setBitOpnd s 0 (.reg .A))

def execSet_1_B (s : State) : Result := .next (setBitOpnd s 1 (.reg .B))

def execSet_1_C (s : State) : Result := .next (setBitOpnd s 1 (.reg .C))

def execSet_1_D (s : State) : Result := .next (setBitOpnd s 1 (.reg .D))

def execSet_1_E (s : State) : Result := .next (setBitOpnd s 1 (.reg .E))

def execSet_1_H (s : State) : Result := .next (setBitOpnd s 1 (.reg .H))

def execSet_1_L (s : State) : Result := .next (setBitOpnd s 1 (.reg .L))

def execSet_1_mHL (s : State) : Result := .next (setBitOpnd s 1 .mHL)

def execSet_1_A (s : State) : Result := .next (setBitOpnd s 1 (.reg .A))

def execSet_2_B (s : State) : Result := .next (setBitOpnd s 2 (.reg .B))

def execSet_2_C (s : State) : Result := .next (setBitOpnd s 2 (.reg .C))

def execSet_2_D (s : State) : Result := .next (setBitOpnd s 2 (.reg .D))

def execSet_2_E (s : State) : Result := .next (setBitOpnd s 2 (.reg .E))

def execSet_2_H (s : State) : Result := .next (setBitOpnd s 2 (.reg .H))

def execSet_2_L (s : State) : Result := .next (setBitOpnd s 2 (.reg .L))

def execSet_2_mHL (s : State) : Result := .next (setBitOpnd s 2 .mHL)

def execSet_2_A (s : State) : Result := .next (setBitOpnd s 2 (.reg .A))

def execSet_3_B (s : State) : Result := .next (setBitOpnd s 3 (.reg .B))

def execSet_3_C (s : State) : Result := .next (setBitOpnd s 3 (.reg .C))

def execSet_3_D (s : State) : Result := .next (setBitOpnd s 3 (.reg .D))

def execSet_3_E (s : State) : Result := .next (setBitOpnd s 3 (.reg .E))

def execSet_3_H (s : State) : Result := .next (setBitOpnd s 3 (.reg .H))

def execSet_3_L (s : State) : Result := .next (setBitOpnd s 3 (.reg .L))

def execSet_3_mHL (s : State) : Result := .next (setBitOpnd s 3 .mHL)

def execSet_3_A (s : State) : Result := .next (setBitOpnd s 3 (.reg .A))

def execSet_4_B (s : State) : Result := .next (setBitOpnd s 4 (.reg .B))

def execSet_4_C (s : State) : Result := .next (setBitOpnd s 4 (.reg .C))

def execSet_4_D (s : State) : Result := .next (setBitOpnd s 4 (.reg .D))

def execSet_4_E (s : State) : Result := .next (setBitOpnd s 4 (.reg .E))

def execSet_4_H (s : State) : Result := .next (setBitOpnd s 4 (.reg .H))

def execSet_4_L (s : State) : Result := .next (setBitOpnd s 4 (.reg .L))

def execSet_4_mHL (s : State) : Result := .next (setBitOpnd s 4 .mHL)

def execSet_4_A (s : State) : Result := .next (setBitOpnd s 4 (.reg .A))

def execSet_5_B (s : State) : Result := .next (setBitOpnd s 5 (.reg .B))

def execSet_5_C (s : State) : Result := .next (setBitOpnd s 5 (.reg .C))

def execSet_5_D (s : State) : Result := .next (setBitOpnd s 5 (.reg .D))

def execSet_5_E (s : State) : Result := .next (setBitOpnd s 5 (.reg .E))

def execSet_5_H (s : State) : Result := .next (setBitOpnd s 5 (.reg .H))

def execSet_5_L (s : State) : Result := .next (setBitOpnd s 5 (.reg .L))

def execSet_5_mHL (s : State) : Result := .next (setBitOpnd s 5 .mHL)

def execSet_5_A (s : State) : Result := .next (setBitOpnd s 5 (.reg .A))

def execSet_6_B (s : State) : Result := .next (setBitOpnd s 6 (.reg .B))

def execSet_6_C (s : State) : Result := .next (setBitOpnd s 6 (.reg .C))

def execSet_6_D (s : State) : Result := .next (setBitOpnd s 6 (.reg .D))

def execSet_6_E (s : State) : Result := .next (setBitOpnd s 6 (.reg .E))

def execSet_6_H (s : State) : Result := .next (setBitOpnd s 6 (.reg .H))

def execSet_6_L (s : State) : Result := .next (setBitOpnd s 6 (.reg .L))

def execSet_6_mHL (s : State) : Result := .next (setBitOpnd s 6 .mHL)

def execSet_6_A (s : State) : Result := .next (setBitOpnd s 6 (.reg .A))

def execSet_7_B (s : State) : Result := .next (setBitOpnd s 7 (.reg .B))

def execSet_7_C (s : State) : Result := .next (setBitOpnd s 7 (.reg .C))

def execSet_7_D (s : State) : Result := .next (setBitOpnd s 7 (.reg .D))

def execSet_7_E (s : State) : Result := .next (setBitOpnd s 7 (.reg .E))

def execSet_7_H (s : State) : Result := .next (setBitOpnd s 7 (.reg .H))

def execSet_7_L (s : State) : Result := .next (setBitOpnd s 7 (.reg .L))

def execSet_7_mHL (s : State) : Result := .next (setBitOpnd s 7 .mHL)

def execSet_7_A (s : State) : Result := .next (setBitOpnd s 7 (.reg .A))


end Sys2Proof.Machine
end

