-- ==== Sys2Proof/Machine/Control.lean ====
section
/-! DEFINITION. The control-transfer instructions (`45_control.md`). A conditional instruction has fetched all its
operand bytes before it looks at the condition (R135). -/

namespace Sys2Proof.Machine

/-- `pc <- a ; Internal(1)` (R136). -/
def jumpTo (s : State) (a : Word) : State := { s with pc := a }.internal 1

/-- The taken and the not-taken case of a conditional jump (R137). -/
def jumpIf (s : State) (taken : Bool) (a : Word) : State := if taken then jumpTo s a else s

/-- The target of a relative jump: relative to `pc` after both fetches (R139). -/
def relativeTarget (s : State) (e : Byte) : Word := s.pc + sext16 e

/-- `PushWord(pc) ; pc <- a` (R141, R146). -/
def callTo (s : State) (a : Word) : State := { s.pushWord s.pc with pc := a }

/-- The taken and the not-taken case of a conditional call (R142). -/
def callIf (s : State) (taken : Bool) (a : Word) : State := if taken then callTo s a else s

/-- `Internal(1)`, then the return if the condition holds (R144). -/
def returnIf (s : State) (taken : Bool) : State :=
  if taken then (s.internal 1).returnToCaller else s.internal 1

/-- `RST`: a call to 8 * y (R146). -/
def restartAt (s : State) (y : Fin 8) : State := callTo s (BitVec.ofNat 16 (8 * y.val))

/-! `JP` (R136 to R138) -/

def execJp_a16 (a16 : Word) (s : State) : Result := .next (jumpTo s a16)

def execJp_NZ_a16 (a16 : Word) (s : State) : Result := .next (jumpIf s (s.cond .NZ) a16)

def execJp_Z_a16 (a16 : Word) (s : State) : Result := .next (jumpIf s (s.cond .Z) a16)

def execJp_NC_a16 (a16 : Word) (s : State) : Result := .next (jumpIf s (s.cond .NC) a16)

def execJp_C_a16 (a16 : Word) (s : State) : Result := .next (jumpIf s (s.cond .C) a16)

def execJp_HL (s : State) : Result := .next ({ s with pc := s.hl })

/-! `JR` (R139, R140) -/

def execJr_e8 (e8 : Byte) (s : State) : Result := .next (jumpTo s (relativeTarget s e8))

def execJr_NZ_e8 (e8 : Byte) (s : State) : Result := .next (jumpIf s (s.cond .NZ) (relativeTarget s e8))

def execJr_Z_e8 (e8 : Byte) (s : State) : Result := .next (jumpIf s (s.cond .Z) (relativeTarget s e8))

def execJr_NC_e8 (e8 : Byte) (s : State) : Result := .next (jumpIf s (s.cond .NC) (relativeTarget s e8))

def execJr_C_e8 (e8 : Byte) (s : State) : Result := .next (jumpIf s (s.cond .C) (relativeTarget s e8))

/-! `CALL` (R141, R142) -/

def execCall_a16 (a16 : Word) (s : State) : Result := .next (callTo s a16)

def execCall_NZ_a16 (a16 : Word) (s : State) : Result := .next (callIf s (s.cond .NZ) a16)

def execCall_Z_a16 (a16 : Word) (s : State) : Result := .next (callIf s (s.cond .Z) a16)

def execCall_NC_a16 (a16 : Word) (s : State) : Result := .next (callIf s (s.cond .NC) a16)

def execCall_C_a16 (a16 : Word) (s : State) : Result := .next (callIf s (s.cond .C) a16)

/-! `RET`, `RETI` (R143 to R145) -/

def execRet (s : State) : Result := .next (s.returnToCaller)

def execRet_NZ (s : State) : Result := .next (returnIf s (s.cond .NZ))

def execRet_Z (s : State) : Result := .next (returnIf s (s.cond .Z))

def execRet_NC (s : State) : Result := .next (returnIf s (s.cond .NC))

def execRet_C (s : State) : Result := .next (returnIf s (s.cond .C))

def execReti (s : State) : Result := .next (s.returnFromInterrupt)

/-! `RST n` (R146) -/

def execRst_00 (s : State) : Result := .next (restartAt s 0)

def execRst_08 (s : State) : Result := .next (restartAt s 1)

def execRst_10 (s : State) : Result := .next (restartAt s 2)

def execRst_18 (s : State) : Result := .next (restartAt s 3)

def execRst_20 (s : State) : Result := .next (restartAt s 4)

def execRst_28 (s : State) : Result := .next (restartAt s 5)

def execRst_30 (s : State) : Result := .next (restartAt s 6)

def execRst_38 (s : State) : Result := .next (restartAt s 7)


end Sys2Proof.Machine
end

