-- ==== Sys2Proof/Machine/Loads16.lean ====
section
/-! DEFINITION. The 16-bit loads and the stack instructions (`41_loads16_stack.md`). -/

namespace Sys2Proof.Machine

/-- `HL <- SP + e8` with its flags, and one internal cycle (R84). -/
def loadHLFromSP (s : State) (e : Byte) : State :=
  let (r, f) := addSP s.sp e
  ((s.setHL r).setFlags f).internal 1

/-- `xq[p] <- PopWord()` (R83). -/
def popPair (s : State) (q : RQ) : State :=
  let (v, s1) := s.popWord
  s1.setRq q v

/-! `LD rp,d16` (R80) -/

def execLd_BC_d16 (d16 : Word) (s : State) : Result := .next (s.setRp .BC d16)

def execLd_DE_d16 (d16 : Word) (s : State) : Result := .next (s.setRp .DE d16)

def execLd_HL_d16 (d16 : Word) (s : State) : Result := .next (s.setRp .HL d16)

def execLd_SP_d16 (d16 : Word) (s : State) : Result := .next (s.setRp .SP d16)

/-! `LD (a16),SP` (R81) -/

def execLd_mA16_SP (a16 : Word) (s : State) : Result := .next (s.memWriteWord a16 s.sp)

/-! `PUSH rq` (R82) -/

def execPush_BC (s : State) : Result := .next (s.pushWord (s.rq .BC))

def execPush_DE (s : State) : Result := .next (s.pushWord (s.rq .DE))

def execPush_HL (s : State) : Result := .next (s.pushWord (s.rq .HL))

def execPush_AF (s : State) : Result := .next (s.pushWord (s.rq .AF))

/-! `POP rq` (R83) -/

def execPop_BC (s : State) : Result := .next (popPair s .BC)

def execPop_DE (s : State) : Result := .next (popPair s .DE)

def execPop_HL (s : State) : Result := .next (popPair s .HL)

def execPop_AF (s : State) : Result := .next (popPair s .AF)

/-! `LD HL,SP+e8` (R84) and `LD SP,HL` (R85) -/

def execLd_HL_SPe8 (e8 : Byte) (s : State) : Result := .next (loadHLFromSP s e8)

def execLd_SP_HL (s : State) : Result := .next ({ s with sp := s.hl }.internal 1)


end Sys2Proof.Machine
end

