-- ==== Sys2Proof/Machine/Loads8.lean ====
section
/-! DEFINITION. The 8-bit loads and stores (`40_loads8.md`). On entry to a meaning `pc` points after the whole
instruction and `cycles` counts its fetched bytes (`00_scope.md` 6.4); no load writes a flag. -/

namespace Sys2Proof.Machine

/-- `x[r] <- v` after an immediate or a register operand (R60, R62). -/
def loadReg (s : State) (r : R8) (v : Byte) : State := s.setReg r v

/-- `x[r] <- MemRead(a, 1)` (R63, R67, R68, R74, R76, R78). -/
def loadFrom (s : State) (r : R8) (a : Word) : State :=
  let (v, s1) := s.memRead a
  s1.setReg r v

/-- `MemWrite(a, 1, v)` (R61, R64 to R66, R73, R75, R77). -/
def storeTo (s : State) (a : Word) (v : Byte) : State := s.memWrite a v

/-- `MemWrite(HL, 1, A)`, then HL takes the given value (R69, R70: the pair changes after the access). -/
def storeThenSetHL (s : State) (next : Word) : State := (s.memWrite s.hl s.A).setHL next

/-- `A <- MemRead(HL, 1)`, then HL takes the given value (R71, R72). -/
def loadThenSetHL (s : State) (next : Word) : State := (loadFrom s .A s.hl).setHL next

/-! `LD r,d8` (R60) and `LD (HL),d8` (R61) -/

def execLd_B_d8 (d8 : Byte) (s : State) : Result := .next (loadReg s .B d8)

def execLd_C_d8 (d8 : Byte) (s : State) : Result := .next (loadReg s .C d8)

def execLd_D_d8 (d8 : Byte) (s : State) : Result := .next (loadReg s .D d8)

def execLd_E_d8 (d8 : Byte) (s : State) : Result := .next (loadReg s .E d8)

def execLd_H_d8 (d8 : Byte) (s : State) : Result := .next (loadReg s .H d8)

def execLd_L_d8 (d8 : Byte) (s : State) : Result := .next (loadReg s .L d8)

def execLd_A_d8 (d8 : Byte) (s : State) : Result := .next (loadReg s .A d8)

def execLd_mHL_d8 (d8 : Byte) (s : State) : Result := .next (storeTo s s.hl d8)

/-! `LD r,r'` (R62) -/

def execLd_B_B (s : State) : Result := .next (loadReg s .B (s.reg .B))

def execLd_B_C (s : State) : Result := .next (loadReg s .B (s.reg .C))

def execLd_B_D (s : State) : Result := .next (loadReg s .B (s.reg .D))

def execLd_B_E (s : State) : Result := .next (loadReg s .B (s.reg .E))

def execLd_B_H (s : State) : Result := .next (loadReg s .B (s.reg .H))

def execLd_B_L (s : State) : Result := .next (loadReg s .B (s.reg .L))

def execLd_B_A (s : State) : Result := .next (loadReg s .B (s.reg .A))

def execLd_C_B (s : State) : Result := .next (loadReg s .C (s.reg .B))

def execLd_C_C (s : State) : Result := .next (loadReg s .C (s.reg .C))

def execLd_C_D (s : State) : Result := .next (loadReg s .C (s.reg .D))

def execLd_C_E (s : State) : Result := .next (loadReg s .C (s.reg .E))

def execLd_C_H (s : State) : Result := .next (loadReg s .C (s.reg .H))

def execLd_C_L (s : State) : Result := .next (loadReg s .C (s.reg .L))

def execLd_C_A (s : State) : Result := .next (loadReg s .C (s.reg .A))

def execLd_D_B (s : State) : Result := .next (loadReg s .D (s.reg .B))

def execLd_D_C (s : State) : Result := .next (loadReg s .D (s.reg .C))

def execLd_D_D (s : State) : Result := .next (loadReg s .D (s.reg .D))

def execLd_D_E (s : State) : Result := .next (loadReg s .D (s.reg .E))

def execLd_D_H (s : State) : Result := .next (loadReg s .D (s.reg .H))

def execLd_D_L (s : State) : Result := .next (loadReg s .D (s.reg .L))

def execLd_D_A (s : State) : Result := .next (loadReg s .D (s.reg .A))

def execLd_E_B (s : State) : Result := .next (loadReg s .E (s.reg .B))

def execLd_E_C (s : State) : Result := .next (loadReg s .E (s.reg .C))

def execLd_E_D (s : State) : Result := .next (loadReg s .E (s.reg .D))

def execLd_E_E (s : State) : Result := .next (loadReg s .E (s.reg .E))

def execLd_E_H (s : State) : Result := .next (loadReg s .E (s.reg .H))

def execLd_E_L (s : State) : Result := .next (loadReg s .E (s.reg .L))

def execLd_E_A (s : State) : Result := .next (loadReg s .E (s.reg .A))

def execLd_H_B (s : State) : Result := .next (loadReg s .H (s.reg .B))

def execLd_H_C (s : State) : Result := .next (loadReg s .H (s.reg .C))

def execLd_H_D (s : State) : Result := .next (loadReg s .H (s.reg .D))

def execLd_H_E (s : State) : Result := .next (loadReg s .H (s.reg .E))

def execLd_H_H (s : State) : Result := .next (loadReg s .H (s.reg .H))

def execLd_H_L (s : State) : Result := .next (loadReg s .H (s.reg .L))

def execLd_H_A (s : State) : Result := .next (loadReg s .H (s.reg .A))

def execLd_L_B (s : State) : Result := .next (loadReg s .L (s.reg .B))

def execLd_L_C (s : State) : Result := .next (loadReg s .L (s.reg .C))

def execLd_L_D (s : State) : Result := .next (loadReg s .L (s.reg .D))

def execLd_L_E (s : State) : Result := .next (loadReg s .L (s.reg .E))

def execLd_L_H (s : State) : Result := .next (loadReg s .L (s.reg .H))

def execLd_L_L (s : State) : Result := .next (loadReg s .L (s.reg .L))

def execLd_L_A (s : State) : Result := .next (loadReg s .L (s.reg .A))

def execLd_A_B (s : State) : Result := .next (loadReg s .A (s.reg .B))

def execLd_A_C (s : State) : Result := .next (loadReg s .A (s.reg .C))

def execLd_A_D (s : State) : Result := .next (loadReg s .A (s.reg .D))

def execLd_A_E (s : State) : Result := .next (loadReg s .A (s.reg .E))

def execLd_A_H (s : State) : Result := .next (loadReg s .A (s.reg .H))

def execLd_A_L (s : State) : Result := .next (loadReg s .A (s.reg .L))

def execLd_A_A (s : State) : Result := .next (loadReg s .A (s.reg .A))

/-! `LD r,(HL)` (R63) -/

def execLd_B_mHL (s : State) : Result := .next (loadFrom s .B s.hl)

def execLd_C_mHL (s : State) : Result := .next (loadFrom s .C s.hl)

def execLd_D_mHL (s : State) : Result := .next (loadFrom s .D s.hl)

def execLd_E_mHL (s : State) : Result := .next (loadFrom s .E s.hl)

def execLd_H_mHL (s : State) : Result := .next (loadFrom s .H s.hl)

def execLd_L_mHL (s : State) : Result := .next (loadFrom s .L s.hl)

def execLd_A_mHL (s : State) : Result := .next (loadFrom s .A s.hl)

/-! `LD (HL),r` (R64) -/

def execLd_mHL_B (s : State) : Result := .next (storeTo s s.hl (s.reg .B))

def execLd_mHL_C (s : State) : Result := .next (storeTo s s.hl (s.reg .C))

def execLd_mHL_D (s : State) : Result := .next (storeTo s s.hl (s.reg .D))

def execLd_mHL_E (s : State) : Result := .next (storeTo s s.hl (s.reg .E))

def execLd_mHL_H (s : State) : Result := .next (storeTo s s.hl (s.reg .H))

def execLd_mHL_L (s : State) : Result := .next (storeTo s s.hl (s.reg .L))

def execLd_mHL_A (s : State) : Result := .next (storeTo s s.hl (s.reg .A))

/-! through BC and DE (R65 to R68) -/

def execLd_mBC_A (s : State) : Result := .next (storeTo s s.bc s.A)

def execLd_mDE_A (s : State) : Result := .next (storeTo s s.de s.A)

def execLd_A_mBC (s : State) : Result := .next (loadFrom s .A s.bc)

def execLd_A_mDE (s : State) : Result := .next (loadFrom s .A s.de)

/-! with a step of HL after the access (R69 to R72) -/

def execLd_mHLinc_A (s : State) : Result := .next (storeThenSetHL s (s.hl + 1))

def execLd_mHLdec_A (s : State) : Result := .next (storeThenSetHL s (s.hl - 1))

def execLd_A_mHLinc (s : State) : Result := .next (loadThenSetHL s (s.hl + 1))

def execLd_A_mHLdec (s : State) : Result := .next (loadThenSetHL s (s.hl - 1))

/-! the I/O page (R73 to R76) -/

def execLdh_mA8_A (a8 : Byte) (s : State) : Result := .next (storeTo s (ioAddress a8) s.A)

def execLdh_A_mA8 (a8 : Byte) (s : State) : Result := .next (loadFrom s .A (ioAddress a8))

def execLd_mC_A (s : State) : Result := .next (storeTo s (ioAddress s.C) s.A)

def execLd_A_mC (s : State) : Result := .next (loadFrom s .A (ioAddress s.C))

/-! absolute (R77, R78) -/

def execLd_mA16_A (a16 : Word) (s : State) : Result := .next (storeTo s a16 s.A)

def execLd_A_mA16 (a16 : Word) (s : State) : Result := .next (loadFrom s .A a16)


end Sys2Proof.Machine
end

