-- ==== Sys2Proof/Machine/Rotates.lean ====
section
/-! DEFINITION. The rotates and shifts of both tables (`44_rotate_shift_bit.md` sections 1 to 3). -/

namespace Sys2Proof.Machine

/-- An accumulator rotate of the base table (R115 to R118). -/
def rotateA (s : State) (op : RotOp) : State :=
  let (r, f) := rotateAFlags op s.A s.fC
  (s.setReg .A r).setFlags f

/-- A rotate or shift of the extended table: `v <- Rd8(z)`, the result, `Wr8(z, res)` (R119 to R127). -/
def rotateOpnd (s : State) (op : RotOp) (o : Opnd) : State :=
  let (v, s1) := s.rd8 o
  let (r, f) := rotateFlags op v s1.fC
  (s1.wr8 o r).setFlags f

/-! `RLCA`, `RRCA`, `RLA`, `RRA` (R115 to R118) -/

def execRlca (s : State) : Result := .next (rotateA s .rlc)

def execRrca (s : State) : Result := .next (rotateA s .rrc)

def execRla (s : State) : Result := .next (rotateA s .rl)

def execRra (s : State) : Result := .next (rotateA s .rr)

/-! `RLC v` (R120) -/

def execRlc_B (s : State) : Result := .next (rotateOpnd s .rlc (.reg .B))

def execRlc_C (s : State) : Result := .next (rotateOpnd s .rlc (.reg .C))

def execRlc_D (s : State) : Result := .next (rotateOpnd s .rlc (.reg .D))

def execRlc_E (s : State) : Result := .next (rotateOpnd s .rlc (.reg .E))

def execRlc_H (s : State) : Result := .next (rotateOpnd s .rlc (.reg .H))

def execRlc_L (s : State) : Result := .next (rotateOpnd s .rlc (.reg .L))

def execRlc_mHL (s : State) : Result := .next (rotateOpnd s .rlc .mHL)

def execRlc_A (s : State) : Result := .next (rotateOpnd s .rlc (.reg .A))

/-! `RRC v` (R121) -/

def execRrc_B (s : State) : Result := .next (rotateOpnd s .rrc (.reg .B))

def execRrc_C (s : State) : Result := .next (rotateOpnd s .rrc (.reg .C))

def execRrc_D (s : State) : Result := .next (rotateOpnd s .rrc (.reg .D))

def execRrc_E (s : State) : Result := .next (rotateOpnd s .rrc (.reg .E))

def execRrc_H (s : State) : Result := .next (rotateOpnd s .rrc (.reg .H))

def execRrc_L (s : State) : Result := .next (rotateOpnd s .rrc (.reg .L))

def execRrc_mHL (s : State) : Result := .next (rotateOpnd s .rrc .mHL)

def execRrc_A (s : State) : Result := .next (rotateOpnd s .rrc (.reg .A))

/-! `RL v` (R122) -/

def execRl_B (s : State) : Result := .next (rotateOpnd s .rl (.reg .B))

def execRl_C (s : State) : Result := .next (rotateOpnd s .rl (.reg .C))

def execRl_D (s : State) : Result := .next (rotateOpnd s .rl (.reg .D))

def execRl_E (s : State) : Result := .next (rotateOpnd s .rl (.reg .E))

def execRl_H (s : State) : Result := .next (rotateOpnd s .rl (.reg .H))

def execRl_L (s : State) : Result := .next (rotateOpnd s .rl (.reg .L))

def execRl_mHL (s : State) : Result := .next (rotateOpnd s .rl .mHL)

def execRl_A (s : State) : Result := .next (rotateOpnd s .rl (.reg .A))

/-! `RR v` (R123) -/

def execRr_B (s : State) : Result := .next (rotateOpnd s .rr (.reg .B))

def execRr_C (s : State) : Result := .next (rotateOpnd s .rr (.reg .C))

def execRr_D (s : State) : Result := .next (rotateOpnd s .rr (.reg .D))

def execRr_E (s : State) : Result := .next (rotateOpnd s .rr (.reg .E))

def execRr_H (s : State) : Result := .next (rotateOpnd s .rr (.reg .H))

def execRr_L (s : State) : Result := .next (rotateOpnd s .rr (.reg .L))

def execRr_mHL (s : State) : Result := .next (rotateOpnd s .rr .mHL)

def execRr_A (s : State) : Result := .next (rotateOpnd s .rr (.reg .A))

/-! `SLA v` (R124) -/

def execSla_B (s : State) : Result := .next (rotateOpnd s .sla (.reg .B))

def execSla_C (s : State) : Result := .next (rotateOpnd s .sla (.reg .C))

def execSla_D (s : State) : Result := .next (rotateOpnd s .sla (.reg .D))

def execSla_E (s : State) : Result := .next (rotateOpnd s .sla (.reg .E))

def execSla_H (s : State) : Result := .next (rotateOpnd s .sla (.reg .H))

def execSla_L (s : State) : Result := .next (rotateOpnd s .sla (.reg .L))

def execSla_mHL (s : State) : Result := .next (rotateOpnd s .sla .mHL)

def execSla_A (s : State) : Result := .next (rotateOpnd s .sla (.reg .A))

/-! `SRA v` (R125) -/

def execSra_B (s : State) : Result := .next (rotateOpnd s .sra (.reg .B))

def execSra_C (s : State) : Result := .next (rotateOpnd s .sra (.reg .C))

def execSra_D (s : State) : Result := .next (rotateOpnd s .sra (.reg .D))

def execSra_E (s : State) : Result := .next (rotateOpnd s .sra (.reg .E))

def execSra_H (s : State) : Result := .next (rotateOpnd s .sra (.reg .H))

def execSra_L (s : State) : Result := .next (rotateOpnd s .sra (.reg .L))

def execSra_mHL (s : State) : Result := .next (rotateOpnd s .sra .mHL)

def execSra_A (s : State) : Result := .next (rotateOpnd s .sra (.reg .A))

/-! `SWAP v` (R126) -/

def execSwap_B (s : State) : Result := .next (rotateOpnd s .swap (.reg .B))

def execSwap_C (s : State) : Result := .next (rotateOpnd s .swap (.reg .C))

def execSwap_D (s : State) : Result := .next (rotateOpnd s .swap (.reg .D))

def execSwap_E (s : State) : Result := .next (rotateOpnd s .swap (.reg .E))

def execSwap_H (s : State) : Result := .next (rotateOpnd s .swap (.reg .H))

def execSwap_L (s : State) : Result := .next (rotateOpnd s .swap (.reg .L))

def execSwap_mHL (s : State) : Result := .next (rotateOpnd s .swap .mHL)

def execSwap_A (s : State) : Result := .next (rotateOpnd s .swap (.reg .A))

/-! `SRL v` (R127) -/

def execSrl_B (s : State) : Result := .next (rotateOpnd s .srl (.reg .B))

def execSrl_C (s : State) : Result := .next (rotateOpnd s .srl (.reg .C))

def execSrl_D (s : State) : Result := .next (rotateOpnd s .srl (.reg .D))

def execSrl_E (s : State) : Result := .next (rotateOpnd s .srl (.reg .E))

def execSrl_H (s : State) : Result := .next (rotateOpnd s .srl (.reg .H))

def execSrl_L (s : State) : Result := .next (rotateOpnd s .srl (.reg .L))

def execSrl_mHL (s : State) : Result := .next (rotateOpnd s .srl .mHL)

def execSrl_A (s : State) : Result := .next (rotateOpnd s .srl (.reg .A))


end Sys2Proof.Machine
end

