-- ==== Sys2Proof/Machine/System.lean ====
section
/-! DEFINITION. The system instructions (`46_system.md`). -/

namespace Sys2Proof.Machine

/-- No effect after the fetch (R150, R153, R154, R155). -/
def noOperation (s : State) : State := s

/-! `NOP` (R150) -/

def execNop (s : State) : Result := .next (noOperation s)

/-! `DI`, `EI` (R151, R152): at once -/

def execDi (s : State) : Result := .next ({ s with IME := false })

def execEi (s : State) : Result := .next ({ s with IME := true })

/-! `HALT` (R153) and `STOP` (R154): no-operations in this core (decisions D5, D6; log entry 8) -/

def execHalt (s : State) : Result := .next (noOperation s)

def execStop (s : State) : Result := .next (noOperation s)

/-! the eleven undefined bytes: no-operations that consume the fetch cost (R155) -/

def execUndef_D3 (s : State) : Result := .next (noOperation s)

def execUndef_DB (s : State) : Result := .next (noOperation s)

def execUndef_DD (s : State) : Result := .next (noOperation s)

def execUndef_E3 (s : State) : Result := .next (noOperation s)

def execUndef_E4 (s : State) : Result := .next (noOperation s)

def execUndef_EB (s : State) : Result := .next (noOperation s)

def execUndef_EC (s : State) : Result := .next (noOperation s)

def execUndef_ED (s : State) : Result := .next (noOperation s)

def execUndef_F4 (s : State) : Result := .next (noOperation s)

def execUndef_FC (s : State) : Result := .next (noOperation s)

def execUndef_FD (s : State) : Result := .next (noOperation s)


end Sys2Proof.Machine
end

