-- ==== Sys2Proof/Machine/Fetch.lean ====
section
/-! DEFINITION. Fetching an instruction (`46_system.md` R156, `30_encoding.md` R47, R52), and placing one
where the next tick fetches it. Every rule fetches all its operand bytes before anything else
(`20_memory.md` R41), so the whole instruction is fetched here, byte by byte through the facade, and its
meaning runs afterwards. -/

namespace Sys2Proof.Machine

/-- Fetch one instruction at pc: as many `Fetch8()` as its first byte asks for. -/
def State.fetchInstr (s : State) : Instr × State :=
  let (b0, s1) := s.fetch8
  if instrLength b0 = 1 then (decodeBytes b0 0 0, s1)
  else
    let (b1, s2) := s1.fetch8
    if instrLength b0 = 2 then (decodeBytes b0 b1 0, s2)
    else
      let (b2, s3) := s2.fetch8
      (decodeBytes b0 b1 b2, s3)

/-- Is the byte at this address simply stored (RAM or read-only memory)? -/
def State.plainAt (s : State) (a : Word) : Bool :=
  match s.kindAt a with
  | .ram => true
  | .rom => true
  | .portIE => false
  | .portIF => false
  | .device => false

/-- Put a byte where a read of `a` finds it: stored at `a`, with `a` made plain memory if it is not. -/
def State.placeByte (s : State) (a : Word) (v : Byte) : State :=
  let s1 := { s with mem := s.mem.write a.toNat v }
  if s.plainAt a then s1
  else { s1 with cfg := { s1.cfg with regions := { first := a, last := a, kind := .ram } :: s1.cfg.regions } }

/-- No move of the environment before the next tick; the later ticks keep theirs. -/
def State.quietInbox (s : State) : State :=
  match s.inbox with
  | [] => s
  | _ :: later => { s with inbox := [] :: later }

/-- No interrupt dispatch in the next tick: the gate is closed if it would dispatch. -/
def State.withoutDispatch (s : State) : State :=
  match s.selected with
  | none => s
  | some _ => { s with IME := false }

/-- The instruction whose bits the opcode table numbers as `w`, stored at pc, with all that the very next
step needs to fetch and run it. -/
def State.placeTableWord (s : State) (nbits w : Nat) : State :=
  let (b0, b1, b2) := tableWordBytes nbits w
  let s1 := ((s.placeByte s.pc b0).placeByte (s.pc + 1) b1).placeByte (s.pc + 2) b2
  s1.quietInbox.withoutDispatch

end Sys2Proof.Machine
end

