-- ==== Sys2Proof/Machine/Step.lean ====
section
/-! DEFINITION. The step: the moves the environment makes between two ticks, then one tick
(`60_exceptions.md` R170). -/

namespace Sys2Proof.Machine

/-- `ExecuteOne()` (`46_system.md` R156): fetch one instruction and run the rule it selects. -/
def executeOne (s : State) : Host.Outcome State Fault Refusal :=
  let (i, s1) := s.fetchInstr
  exec i s1

/-- `Tick()` (R170): zero the counter; dispatch if the gate is set and an enabled source is pending, and
then fetch nothing; otherwise run exactly one instruction. -/
def tick (s : State) : Host.Outcome State Fault Refusal :=
  match s.beginTick.selected with
  | some n => .next (s.beginTick.dispatch n)
  | none => executeOne s.beginTick

/-- One step: the environment's moves for this tick (`10_state.md` R28), then the tick. -/
def step (s : State) : Host.Outcome State Fault Refusal := tick s.environment

/-- `s` with the instruction of a table word stored where `step` fetches its next instruction. -/
def State.withFetchWord (s : State) (nbits w : Nat) : State := s.placeTableWord nbits w

end Sys2Proof.Machine
end

