-- ==== Sys2Proof/WellFormed.lean ====
section
/-! DEFINITION. What makes a term admissible. Every operand field of `Instr` is a bit vector of exactly
the width its format gives it (`30_encoding.md` R45, R47), every value of every selector is legal
(`10_state.md` R23) and every byte is a legal opcode (`00_scope.md` R3), so no term of `Instr` is
ill-formed. The parameters of the block are constrained by R5 and R25; those are the checks here. -/

namespace Sys2Proof

/-- Every term of `Instr` is an instruction that the encoding admits: nothing to refuse. -/
def Instr.wf (_ : Instr) : Bool := true

/-- A region's bounds are in order. -/
def Region.wf (r : Region) : Bool := decide (r.first ≤ r.last)

/-- `RESET.f[3:0] = 0` is required in every case (`10_state.md` R25). -/
def ResetValues.wf (r : ResetValues) : Bool := r.F &&& 0x0F == 0

/-- `cycles ≥ 1` after every tick (`60_exceptions.md` R170), so a dispatch costs at least one cycle. -/
def Params.dispatchCyclesWf (p : Params) : Bool := p.dispatchCycles != 0

/-- The parameters the spec admits. -/
def Params.wf (p : Params) : Bool := p.reset.wf && p.dispatchCyclesWf && p.regions.all Region.wf

end Sys2Proof
end

