-- ==== Sys2Proof/Safety.lean ====
section
/-! DEFINITION. The terms the claims are stated in: what a step leaves unchanged, what one access of the
memory port does, what the rules call their operands' results, the cost table, and the invariant of a
good state. They are written from the rules, not from the machine's functions. -/

namespace Sys2Proof.Machine

/-! ### Frames -/

/-- One piece of the state. -/
inductive Part where
  | reg (r : R8)
  | F
  | sp
  | pc
  | IME
  | IE
  | IF
  | cycles
  | memory
  | facade
  | asked
  | cfg
  | inbox
deriving DecidableEq, Repr

/-- The piece is the same in both states; of memory, every byte reads the same. -/
def Part.same (s t : State) : Part → Prop
  | .reg r => t.reg r = s.reg r
  | .F => t.F = s.F
  | .sp => t.sp = s.sp
  | .pc => t.pc = s.pc
  | .IME => t.IME = s.IME
  | .IE => t.IE = s.IE
  | .IF => t.IF = s.IF
  | .cycles => t.cycles = s.cycles
  | .memory => ∀ a, t.byteAt a = s.byteAt a
  | .facade => t.facade = s.facade
  | .asked => t.asked = s.asked
  | .cfg => t.cfg = s.cfg
  | .inbox => t.inbox = s.inbox

/-- Everything is unchanged except the pieces listed. -/
def Keeps (changed : List Part) (s t : State) : Prop := ∀ p, p ∉ changed → p.same s t

/-- What a read through the facade may change besides its result (R31, R163). -/
abbrev readParts : List Part := [.IE, .IF, .facade, .asked, .cycles]

/-- What a write through the facade may change (R32, R163). -/
abbrev writeParts : List Part := [.memory, .IE, .IF, .facade, .asked, .cycles]

/-- The rule's line **Cycles**: `cycles` was the number of fetched bytes on entry (`00_scope.md` 6.4) and
is `n` at the end. -/
def Costs (i : Instr) (n : Nat) (s t : State) : Prop :=
  t.cycles = s.cycles + BitVec.ofNat 8 n - BitVec.ofNat 8 (encode i).length

/-- All four flags, and the low four bits of F zero (R12, R13). -/
def FlagsAre (z n h c : Bool) (t : State) : Prop :=
  t.fZ = z ∧ t.fN = n ∧ t.fH = h ∧ t.fC = c ∧ t.F &&& 0x0F = 0

/-- The registers of a pair of `xp` (R11, R23). -/
def rpParts : RP → List Part
  | .BC => [.reg .B, .reg .C]
  | .DE => [.reg .D, .reg .E]
  | .HL => [.reg .H, .reg .L]
  | .SP => [.sp]

/-- The registers of a pair of `xq` (R11, R23). -/
def rqParts : RQ → List Part
  | .BC => [.reg .B, .reg .C]
  | .DE => [.reg .D, .reg .E]
  | .HL => [.reg .H, .reg .L]
  | .AF => [.reg .A, .F]

/-! ### The memory port, by what stands behind the address -/

/-- What an access to a device does, by the unknown functions of the facade: its own state, and the masks
through the port (R31, R32, R163 case 2). -/
def DeviceEffect (x : Access) (s t : State) : Prop :=
  t.facade = Config.deviceState (s.deviceCall x) ∧ t.IE = Config.deviceIE (s.deviceCall x) ∧
    t.IF = Config.deviceIF (s.deviceCall x) ∧ t.asked = s.asked + 1

/-- One read at `a` answers `v` and leads from `s` to `t`, as far as the facade is concerned. -/
structure FacadeRead (a : Word) (v : Byte) (s t : State) : Prop where
  plain  : s.kindAt a = .ram ∨ s.kindAt a = .rom → v = s.byteAt a
  portIE : s.kindAt a = .portIE → v = s.IE
  portIF : s.kindAt a = .portIF → v = s.IF
  device : s.kindAt a = .device → v = Config.deviceByte (s.deviceCall (.read a))
  quiet  : s.kindAt a ≠ .device → t.IE = s.IE ∧ t.IF = s.IF ∧ t.facade = s.facade ∧ t.asked = s.asked
  effect : s.kindAt a = .device → DeviceEffect (.read a) s t
  memory : ∀ x, t.byteAt x = s.byteAt x
  cfg    : t.cfg = s.cfg

/-- One write of `v` at `a` leads from `s` to `t`, as far as the facade is concerned. -/
structure FacadeWrite (a : Word) (v : Byte) (s t : State) : Prop where
  stored  : s.kindAt a = .ram → t.byteAt a = v
  ignored : s.kindAt a ≠ .ram → t.byteAt a = s.byteAt a
  others  : ∀ x, x ≠ a → t.byteAt x = s.byteAt x
  portIE  : s.kindAt a = .portIE → t.IE = v ∧ t.IF = s.IF ∧ t.facade = s.facade ∧ t.asked = s.asked
  portIF  : s.kindAt a = .portIF → t.IE = s.IE ∧ t.IF = v ∧ t.facade = s.facade ∧ t.asked = s.asked
  quiet   : s.kindAt a = .ram ∨ s.kindAt a = .rom →
    t.IE = s.IE ∧ t.IF = s.IF ∧ t.facade = s.facade ∧ t.asked = s.asked
  effect  : s.kindAt a = .device → DeviceEffect (.write a v) s t
  cfg     : t.cfg = s.cfg

/-- The two writes of a push, the high byte first and higher (R44, R167). -/
structure Pushed (v : Word) (s t : State) : Prop where
  sp     : t.sp = s.sp - 2
  writes : ∃ m, FacadeWrite (s.sp - 1) (hiByte v) s m ∧ FacadeWrite (s.sp - 2) (loByte v) m t
  others : ∀ x, x ≠ s.sp - 1 → x ≠ s.sp - 2 → t.byteAt x = s.byteAt x

/-- The two reads of a pop, the low byte first and lower (R44). -/
structure Popped (v : Word) (s t : State) : Prop where
  sp    : t.sp = s.sp + 2
  reads : ∃ lo hi m, FacadeRead s.sp lo s m ∧ FacadeRead (s.sp + 1) hi m t ∧ hiByte v = hi ∧ loByte v = lo

/-- One `Fetch8()` answers `b` (R37). -/
structure Fetched (b : Byte) (s t : State) : Prop where
  read   : FacadeRead s.pc b s t
  pc     : t.pc = s.pc + 1
  cycles : t.cycles = s.cycles + 1
  rest   : Keeps (.pc :: readParts) s t

/-- A tick in this state dispatches source number `n`: the gate is set, and `n` is the smallest of the five
whose bit is set in both masks (R165, R166). -/
def Dispatches (n : Nat) (s : State) : Prop :=
  s.IME = true ∧ n < 5 ∧ (s.IE &&& s.IF).getLsbD n = true ∧ ∀ k < n, (s.IE &&& s.IF).getLsbD k = false

/-- A tick in this state dispatches nothing: the gate is unset, or no enabled source is pending (R165). -/
def NoDispatch (s : State) : Prop := s.IME = false ∨ s.IE &&& s.IF &&& 0x1F = 0

/-- The facade merely stores what is at every address: no port, no device. -/
def State.plainFacade (s : State) : Prop := ∀ a, s.kindAt a = .ram ∨ s.kindAt a = .rom

/-! ### Conditions and results, from the rules -/

/-- The table of R135. -/
def CondHolds (c : Cond) (s : State) : Prop :=
  c = .NZ ∧ s.fZ = false ∨ c = .Z ∧ s.fZ = true ∨ c = .NC ∧ s.fC = false ∨ c = .C ∧ s.fC = true

/-- The condition an instruction tests, if it is one of the sixteen conditional transfers (R190). -/
def condition : Instr → Option Cond
  | .jr_NZ_e8 _ | .jp_NZ_a16 _ | .call_NZ_a16 _ | .ret_NZ => some .NZ
  | .jr_Z_e8 _ | .jp_Z_a16 _ | .call_Z_a16 _ | .ret_Z => some .Z
  | .jr_NC_e8 _ | .jp_NC_a16 _ | .call_NC_a16 _ | .ret_NC => some .NC
  | .jr_C_e8 _ | .jp_C_a16 _ | .call_C_a16 _ | .ret_C => some .C
  | _ => none

/-- The transfer is taken: the instruction's condition, if it has one, holds. -/
def Taken (i : Instr) (s : State) : Prop := ∀ c, condition i = some c → CondHolds c s

/-- The thirty control transfers (`45_control.md`): the instructions whose rules write pc. -/
def isTransfer : Instr → Bool
  | .jp_a16 _ | .jp_NZ_a16 _ | .jp_Z_a16 _ | .jp_NC_a16 _ | .jp_C_a16 _ | .jp_HL => true
  | .jr_e8 _ | .jr_NZ_e8 _ | .jr_Z_e8 _ | .jr_NC_e8 _ | .jr_C_e8 _ => true
  | .call_a16 _ | .call_NZ_a16 _ | .call_Z_a16 _ | .call_NC_a16 _ | .call_C_a16 _ => true
  | .ret | .ret_NZ | .ret_Z | .ret_NC | .ret_C | .reti => true
  | .rst_00 | .rst_08 | .rst_10 | .rst_18 | .rst_20 | .rst_28 | .rst_30 | .rst_38 => true
  | _ => false

/-- The old carry as a number. -/
def State.carryIn (s : State) : Nat := if s.fC then 1 else 0

/-- `s + v + carry` in A, with the flags of R91 and R92. -/
def AddOutcome (carry : Nat) (v : Byte) (s t : State) : Prop :=
  t.A.toNat = (s.A.toNat + v.toNat + carry) % 256 ∧
  FlagsAre (decide ((s.A.toNat + v.toNat + carry) % 256 = 0)) false
    (decide (s.A.toNat % 16 + v.toNat % 16 + carry > 0xF)) (decide (s.A.toNat + v.toNat + carry > 0xFF)) t

/-- The flags of `A - v - borrow` of R93 and R94. -/
def SubFlags (borrow : Nat) (v : Byte) (s t : State) : Prop :=
  FlagsAre (decide (((s.A.toNat : Int) - v.toNat - borrow) % 256 = 0)) true
    (decide (s.A.toNat % 16 < v.toNat % 16 + borrow)) (decide (s.A.toNat < v.toNat + borrow)) t

/-- `A - v - borrow` in A, with its flags. -/
def SubOutcome (borrow : Nat) (v : Byte) (s t : State) : Prop :=
  (t.A.toNat : Int) = ((s.A.toNat : Int) - v.toNat - borrow) % 256 ∧ SubFlags borrow v s t

/-- A result computed bit by bit, fZ from it, fN and fC clear, fH given (R95 to R97). -/
def LogicOutcome (f : Bool → Bool → Bool) (h : Bool) (v : Byte) (s t : State) : Prop :=
  (∀ i < 8, t.A.getLsbD i = f (s.A.getLsbD i) (v.getLsbD i)) ∧ FlagsAre (decide (t.A = 0)) false h false t

/-- The operation's three operand forms (R90): encoding, how the operand is obtained, cost; `outcome` says
what becomes of A and F for the operand obtained, and nothing but A, F and (for the memory form) what a
read may change is changed. -/
def AluForms (op : AluOp) (outcome : Byte → State → State → Prop) : Prop :=
  ∀ s : State,
    (∀ r : R8, encode (.alu op (.reg r)) = [BitVec.ofNat 8 (0x80 + 8 * op.index + r.index)] ∧
      ∃ t, exec (.alu op (.reg r)) s = .next t ∧ outcome (s.reg r) s t ∧
        Keeps [.reg .A, .F] s t ∧ Costs (.alu op (.reg r)) 1 s t) ∧
    (encode (.alu op .mHL) = [BitVec.ofNat 8 (0x86 + 8 * op.index)] ∧
      ∃ t v, exec (.alu op .mHL) s = .next t ∧ FacadeRead s.hl v s t ∧ outcome v s t ∧
        Keeps ([.reg .A, .F] ++ readParts) s t ∧ Costs (.alu op .mHL) 2 s t) ∧
    (∀ v : Byte, encode (.aluD8 op v) = [BitVec.ofNat 8 (0xC6 + 8 * op.index), v] ∧
      ∃ t, exec (.aluD8 op v) s = .next t ∧ outcome v s t ∧
        Keeps [.reg .A, .F] s t ∧ Costs (.aluD8 op v) 2 s t)

/-- A rotate or shift, bit by bit: `r` is the result for operand `v` and old carry `c`, and `out` is the
bit that goes to carry (R115 to R118, R120 to R127). -/
def Rotated (op : RotOp) (v : Byte) (c : Bool) (r : Byte) (out : Bool) : Prop :=
  match op with
  | .rlc => (∀ i < 7, r.getLsbD (i + 1) = v.getLsbD i) ∧ r.getLsbD 0 = v.getLsbD 7 ∧ out = v.getLsbD 7
  | .rrc => (∀ i < 7, r.getLsbD i = v.getLsbD (i + 1)) ∧ r.getLsbD 7 = v.getLsbD 0 ∧ out = v.getLsbD 0
  | .rl => (∀ i < 7, r.getLsbD (i + 1) = v.getLsbD i) ∧ r.getLsbD 0 = c ∧ out = v.getLsbD 7
  | .rr => (∀ i < 7, r.getLsbD i = v.getLsbD (i + 1)) ∧ r.getLsbD 7 = c ∧ out = v.getLsbD 0
  | .sla => (∀ i < 7, r.getLsbD (i + 1) = v.getLsbD i) ∧ r.getLsbD 0 = false ∧ out = v.getLsbD 7
  | .sra => (∀ i < 7, r.getLsbD i = v.getLsbD (i + 1)) ∧ r.getLsbD 7 = v.getLsbD 7 ∧ out = v.getLsbD 0
  | .swap => (∀ i < 4, r.getLsbD i = v.getLsbD (i + 4) ∧ r.getLsbD (i + 4) = v.getLsbD i) ∧ out = false
  | .srl => (∀ i < 7, r.getLsbD i = v.getLsbD (i + 1)) ∧ r.getLsbD 7 = false ∧ out = v.getLsbD 0

/-- The carries of the unsigned addition of a byte to the low nibble and the low byte of sp (R84, R113). -/
def SPFlags (sp : Word) (e : Byte) (t : State) : Prop :=
  FlagsAre false false (decide (sp.toNat % 16 + e.toNat % 16 > 0xF)) (decide (sp.toNat % 256 + e.toNat > 0xFF)) t

/-- `mod16(w + signed8(e))`. -/
def PlusSigned (w : Word) (e : Byte) (r : Word) : Prop := (r.toNat : Int) = ((w.toNat : Int) + e.toInt) % 65536

/-- The byte read as two decimal digits, if it is packed binary-coded decimal. -/
def bcdValue (v : Byte) : Option Nat :=
  if v.toNat / 16 ≤ 9 ∧ v.toNat % 16 ≤ 9 then some (10 * (v.toNat / 16) + v.toNat % 16) else none

/-! ### Costs -/

/-- The column `cycles` of `opcode_table.json` (R55, R135, R189): the machine cycles of an instruction, of a
conditional transfer by whether it is taken. -/
def tableCycles (taken : Bool) : Instr → Nat
  | .nop | .inc_B | .dec_B | .rlca | .inc_C | .dec_C | .rrca | .stop | .inc_D | .dec_D | .rla | .inc_E | .dec_E
  | .rra | .inc_H | .dec_H | .daa | .inc_L | .dec_L | .cpl | .scf | .inc_A | .dec_A | .ccf | .ld_B_B | .ld_B_C
  | .ld_B_D | .ld_B_E | .ld_B_H | .ld_B_L | .ld_B_A | .ld_C_B | .ld_C_C | .ld_C_D | .ld_C_E | .ld_C_H | .ld_C_L
  | .ld_C_A | .ld_D_B | .ld_D_C | .ld_D_D | .ld_D_E | .ld_D_H | .ld_D_L | .ld_D_A | .ld_E_B | .ld_E_C | .ld_E_D
  | .ld_E_E | .ld_E_H | .ld_E_L | .ld_E_A | .ld_H_B | .ld_H_C | .ld_H_D | .ld_H_E | .ld_H_H | .ld_H_L | .ld_H_A
  | .ld_L_B | .ld_L_C | .ld_L_D | .ld_L_E | .ld_L_H | .ld_L_L | .ld_L_A | .halt | .ld_A_B | .ld_A_C | .ld_A_D
  | .ld_A_E | .ld_A_H | .ld_A_L | .ld_A_A | .add_A_B | .add_A_C | .add_A_D | .add_A_E | .add_A_H | .add_A_L
  | .add_A_A | .adc_A_B | .adc_A_C | .adc_A_D | .adc_A_E | .adc_A_H | .adc_A_L | .adc_A_A | .sub_A_B | .sub_A_C
  | .sub_A_D | .sub_A_E | .sub_A_H | .sub_A_L | .sub_A_A | .sbc_A_B | .sbc_A_C | .sbc_A_D | .sbc_A_E | .sbc_A_H
  | .sbc_A_L | .sbc_A_A | .and_A_B | .and_A_C | .and_A_D | .and_A_E | .and_A_H | .and_A_L | .and_A_A | .xor_A_B
  | .xor_A_C | .xor_A_D | .xor_A_E | .xor_A_H | .xor_A_L | .xor_A_A | .or_A_B | .or_A_C | .or_A_D | .or_A_E
  | .or_A_H | .or_A_L | .or_A_A | .cp_A_B | .cp_A_C | .cp_A_D | .cp_A_E | .cp_A_H | .cp_A_L | .cp_A_A | .undef_D3
  | .undef_DB | .undef_DD | .undef_E3 | .undef_E4 | .jp_HL | .undef_EB | .undef_EC | .undef_ED | .di | .undef_F4
  | .ei | .undef_FC | .undef_FD => 1
  | .ld_mBC_A | .inc_BC | .ld_B_d8 _ | .add_HL_BC | .ld_A_mBC | .dec_BC | .ld_C_d8 _ | .ld_mDE_A | .inc_DE
  | .ld_D_d8 _ | .add_HL_DE | .ld_A_mDE | .dec_DE | .ld_E_d8 _ | .ld_mHLinc_A | .inc_HL | .ld_H_d8 _ | .add_HL_HL
  | .ld_A_mHLinc | .dec_HL | .ld_L_d8 _ | .ld_mHLdec_A | .inc_SP | .add_HL_SP | .ld_A_mHLdec | .dec_SP | .ld_A_d8 _
  | .ld_B_mHL | .ld_C_mHL | .ld_D_mHL | .ld_E_mHL | .ld_H_mHL | .ld_L_mHL | .ld_mHL_B | .ld_mHL_C | .ld_mHL_D
  | .ld_mHL_E | .ld_mHL_H | .ld_mHL_L | .ld_mHL_A | .ld_A_mHL | .add_A_mHL | .adc_A_mHL | .sub_A_mHL | .sbc_A_mHL
  | .and_A_mHL | .xor_A_mHL | .or_A_mHL | .cp_A_mHL | .add_A_d8 _ | .adc_A_d8 _ | .sub_A_d8 _ | .sbc_A_d8 _
  | .ld_mC_A | .and_A_d8 _ | .xor_A_d8 _ | .ld_A_mC | .or_A_d8 _ | .ld_SP_HL | .cp_A_d8 _ | .rlc_B | .rlc_C | .rlc_D
  | .rlc_E | .rlc_H | .rlc_L | .rlc_A | .rrc_B | .rrc_C | .rrc_D | .rrc_E | .rrc_H | .rrc_L | .rrc_A | .rl_B | .rl_C
  | .rl_D | .rl_E | .rl_H | .rl_L | .rl_A | .rr_B | .rr_C | .rr_D | .rr_E | .rr_H | .rr_L | .rr_A | .sla_B | .sla_C
  | .sla_D | .sla_E | .sla_H | .sla_L | .sla_A | .sra_B | .sra_C | .sra_D | .sra_E | .sra_H | .sra_L | .sra_A
  | .swap_B | .swap_C | .swap_D | .swap_E | .swap_H | .swap_L | .swap_A | .srl_B | .srl_C | .srl_D | .srl_E | .srl_H
  | .srl_L | .srl_A | .bit_0_B | .bit_0_C | .bit_0_D | .bit_0_E | .bit_0_H | .bit_0_L | .bit_0_A | .bit_1_B
  | .bit_1_C | .bit_1_D | .bit_1_E | .bit_1_H | .bit_1_L | .bit_1_A | .bit_2_B | .bit_2_C | .bit_2_D | .bit_2_E
  | .bit_2_H | .bit_2_L | .bit_2_A | .bit_3_B | .bit_3_C | .bit_3_D | .bit_3_E | .bit_3_H | .bit_3_L | .bit_3_A
  | .bit_4_B | .bit_4_C | .bit_4_D | .bit_4_E | .bit_4_H | .bit_4_L | .bit_4_A | .bit_5_B | .bit_5_C | .bit_5_D
  | .bit_5_E | .bit_5_H | .bit_5_L | .bit_5_A | .bit_6_B | .bit_6_C | .bit_6_D | .bit_6_E | .bit_6_H | .bit_6_L
  | .bit_6_A | .bit_7_B | .bit_7_C | .bit_7_D | .bit_7_E | .bit_7_H | .bit_7_L | .bit_7_A | .res_0_B | .res_0_C
  | .res_0_D | .res_0_E | .res_0_H | .res_0_L | .res_0_A | .res_1_B | .res_1_C | .res_1_D | .res_1_E | .res_1_H
  | .res_1_L | .res_1_A | .res_2_B | .res_2_C | .res_2_D | .res_2_E | .res_2_H | .res_2_L | .res_2_A | .res_3_B
  | .res_3_C | .res_3_D | .res_3_E | .res_3_H | .res_3_L | .res_3_A | .res_4_B | .res_4_C | .res_4_D | .res_4_E
  | .res_4_H | .res_4_L | .res_4_A | .res_5_B | .res_5_C | .res_5_D | .res_5_E | .res_5_H | .res_5_L | .res_5_A
  | .res_6_B | .res_6_C | .res_6_D | .res_6_E | .res_6_H | .res_6_L | .res_6_A | .res_7_B | .res_7_C | .res_7_D
  | .res_7_E | .res_7_H | .res_7_L | .res_7_A | .set_0_B | .set_0_C | .set_0_D | .set_0_E | .set_0_H | .set_0_L
  | .set_0_A | .set_1_B | .set_1_C | .set_1_D | .set_1_E | .set_1_H | .set_1_L | .set_1_A | .set_2_B | .set_2_C
  | .set_2_D | .set_2_E | .set_2_H | .set_2_L | .set_2_A | .set_3_B | .set_3_C | .set_3_D | .set_3_E | .set_3_H
  | .set_3_L | .set_3_A | .set_4_B | .set_4_C | .set_4_D | .set_4_E | .set_4_H | .set_4_L | .set_4_A | .set_5_B
  | .set_5_C | .set_5_D | .set_5_E | .set_5_H | .set_5_L | .set_5_A | .set_6_B | .set_6_C | .set_6_D | .set_6_E
  | .set_6_H | .set_6_L | .set_6_A | .set_7_B | .set_7_C | .set_7_D | .set_7_E | .set_7_H | .set_7_L | .set_7_A => 2
  | .ld_BC_d16 _ | .ld_DE_d16 _ | .jr_e8 _ | .ld_HL_d16 _ | .ld_SP_d16 _ | .inc_mHL | .dec_mHL | .ld_mHL_d8 _
  | .pop_BC | .pop_DE | .ldh_mA8_A _ | .pop_HL | .ldh_A_mA8 _ | .pop_AF | .ld_HL_SPe8 _ | .bit_0_mHL | .bit_1_mHL
  | .bit_2_mHL | .bit_3_mHL | .bit_4_mHL | .bit_5_mHL | .bit_6_mHL | .bit_7_mHL => 3
  | .jp_a16 _ | .push_BC | .rst_00 | .ret | .rst_08 | .push_DE | .rst_10 | .reti | .rst_18 | .push_HL | .rst_20
  | .add_SP_e8 _ | .ld_mA16_A _ | .rst_28 | .push_AF | .rst_30 | .ld_A_mA16 _ | .rst_38 | .rlc_mHL | .rrc_mHL
  | .rl_mHL | .rr_mHL | .sla_mHL | .sra_mHL | .swap_mHL | .srl_mHL | .res_0_mHL | .res_1_mHL | .res_2_mHL
  | .res_3_mHL | .res_4_mHL | .res_5_mHL | .res_6_mHL | .res_7_mHL | .set_0_mHL | .set_1_mHL | .set_2_mHL
  | .set_3_mHL | .set_4_mHL | .set_5_mHL | .set_6_mHL | .set_7_mHL => 4
  | .ld_mA16_SP _ => 5
  | .call_a16 _ => 6
  | .jr_NZ_e8 _ => if taken then 3 else 2
  | .jr_Z_e8 _ => if taken then 3 else 2
  | .jr_NC_e8 _ => if taken then 3 else 2
  | .jr_C_e8 _ => if taken then 3 else 2
  | .ret_NZ => if taken then 5 else 2
  | .jp_NZ_a16 _ => if taken then 4 else 3
  | .call_NZ_a16 _ => if taken then 6 else 3
  | .ret_Z => if taken then 5 else 2
  | .jp_Z_a16 _ => if taken then 4 else 3
  | .call_Z_a16 _ => if taken then 6 else 3
  | .ret_NC => if taken then 5 else 2
  | .jp_NC_a16 _ => if taken then 4 else 3
  | .call_NC_a16 _ => if taken then 6 else 3
  | .ret_C => if taken then 5 else 2
  | .jp_C_a16 _ => if taken then 4 else 3
  | .call_C_a16 _ => if taken then 6 else 3

/-! ### The invariant -/

/-- A good state: the low four bits of F are zero (R12: "In every state of the core F[3:0] = 0b0000"), and
memory is in canonical form. -/
abbrev State.Inv (s : State) : Prop := s.F &&& 0x0F = 0 ∧ s.mem.wf = true

end Sys2Proof.Machine
end

