-- ==== Sys2Proof/Certificates/Slice0/Obligations.lean ====
section
/-! DEFINITION. The statements for the provers: one definition for each entry of OBLIGATIONS.json, in its
order. Every statement about an instruction is made for every state with the instruction's bytes already
fetched (`00_scope.md` 6.4), whatever the facade; `Keeps` is its frame and `Costs` its line Cycles. Wherever
a statement speaks of `State.environment` and the field inbox (log entry 6), of the map of the facade (log
entry 4) or of the fields facade, asked and cfg (log entries 5 and 18), it speaks of the model's own form of
what the spec leaves to the outside. -/

open Sys2Proof
open Sys2Proof.Machine

/-- LD r,d8 and LD (HL),d8: encoding, effect, frame and cost (R60, R61). -/
def Obligations.LoadByteImmediate : Prop :=
  ∀ (s : State) (v : Byte),
    (∀ r : R8, encode (.ldRD8 r v) = [BitVec.ofNat 8 (0x06 + 8 * r.index), v] ∧
      ∃ t, exec (.ldRD8 r v) s = .next t ∧ t.reg r = v ∧ Keeps [.reg r] s t ∧ Costs (.ldRD8 r v) 2 s t) ∧
    (encode (.ld_mHL_d8 v) = [0x36, v] ∧
      ∃ t, exec (.ld_mHL_d8 v) s = .next t ∧ FacadeWrite s.hl v s t ∧ Keeps writeParts s t ∧
        Costs (.ld_mHL_d8 v) 3 s t)

/-- LD r,r': encoding, effect, frame and cost, for all 49 pairs (R62). -/
def Obligations.MoveRegisterToRegister : Prop :=
  ∀ (s : State) (d r : R8),
    encode (.ldRR d r) = [BitVec.ofNat 8 (0x40 + 8 * d.index + r.index)] ∧
      ∃ t, exec (.ldRR d r) s = .next t ∧ t.reg d = s.reg r ∧ Keeps [.reg d] s t ∧ Costs (.ldRR d r) 1 s t

/-- LD r,(HL) and LD (HL),r: encoding, effect, frame and cost (R63, R64). -/
def Obligations.LoadAndStoreThroughHL : Prop :=
  ∀ (s : State) (r : R8),
    (encode (.ldRM r) = [BitVec.ofNat 8 (0x46 + 8 * r.index)] ∧
      ∃ t v, exec (.ldRM r) s = .next t ∧ FacadeRead s.hl v s t ∧ t.reg r = v ∧
        Keeps (.reg r :: readParts) s t ∧ Costs (.ldRM r) 2 s t) ∧
    (encode (.ldMR r) = [BitVec.ofNat 8 (0x70 + r.index)] ∧
      ∃ t, exec (.ldMR r) s = .next t ∧ FacadeWrite s.hl (s.reg r) s t ∧ Keeps writeParts s t ∧
        Costs (.ldMR r) 2 s t)

/-- LD (BC),A, LD (DE),A, LD A,(BC), LD A,(DE): encoding, effect, frame and cost (R65, R66, R67, R68). -/
def Obligations.LoadAndStoreThroughBCAndDE : Prop :=
  ∀ s : State,
    (encode .ld_mBC_A = [0x02] ∧
      ∃ t, exec .ld_mBC_A s = .next t ∧ FacadeWrite s.bc s.A s t ∧ Keeps writeParts s t ∧ Costs .ld_mBC_A 2 s t) ∧
    (encode .ld_mDE_A = [0x12] ∧
      ∃ t, exec .ld_mDE_A s = .next t ∧ FacadeWrite s.de s.A s t ∧ Keeps writeParts s t ∧ Costs .ld_mDE_A 2 s t) ∧
    (encode .ld_A_mBC = [0x0A] ∧
      ∃ t, exec .ld_A_mBC s = .next t ∧ FacadeRead s.bc t.A s t ∧ Keeps (.reg .A :: readParts) s t ∧
        Costs .ld_A_mBC 2 s t) ∧
    (encode .ld_A_mDE = [0x1A] ∧
      ∃ t, exec .ld_A_mDE s = .next t ∧ FacadeRead s.de t.A s t ∧ Keeps (.reg .A :: readParts) s t ∧
        Costs .ld_A_mDE 2 s t)

/-- LD (HL+),A, LD (HL-),A, LD A,(HL+), LD A,(HL-): the old HL is the address, HL steps after the access
(R69, R70, R71, R72). -/
def Obligations.PostIncrementAndDecrementOfHL : Prop :=
  ∀ s : State,
    (encode .ld_mHLinc_A = [0x22] ∧
      ∃ t, exec .ld_mHLinc_A s = .next t ∧ FacadeWrite s.hl s.A s t ∧ t.hl.toNat = (s.hl.toNat + 1) % 65536 ∧
        Keeps ([.reg .H, .reg .L] ++ writeParts) s t ∧ Costs .ld_mHLinc_A 2 s t) ∧
    (encode .ld_mHLdec_A = [0x32] ∧
      ∃ t, exec .ld_mHLdec_A s = .next t ∧ FacadeWrite s.hl s.A s t ∧ t.hl.toNat = (s.hl.toNat + 65535) % 65536 ∧
        Keeps ([.reg .H, .reg .L] ++ writeParts) s t ∧ Costs .ld_mHLdec_A 2 s t) ∧
    (encode .ld_A_mHLinc = [0x2A] ∧
      ∃ t, exec .ld_A_mHLinc s = .next t ∧ FacadeRead s.hl t.A s t ∧ t.hl.toNat = (s.hl.toNat + 1) % 65536 ∧
        Keeps ([.reg .A, .reg .H, .reg .L] ++ readParts) s t ∧ Costs .ld_A_mHLinc 2 s t) ∧
    (encode .ld_A_mHLdec = [0x3A] ∧
      ∃ t, exec .ld_A_mHLdec s = .next t ∧ FacadeRead s.hl t.A s t ∧ t.hl.toNat = (s.hl.toNat + 65535) % 65536 ∧
        Keeps ([.reg .A, .reg .H, .reg .L] ++ readParts) s t ∧ Costs .ld_A_mHLdec 2 s t)

/-- LDH (a8),A, LDH A,(a8), LD (C),A, LD A,(C): the address is 0xFF00 plus the byte (R73, R74, R75, R76). -/
def Obligations.IOPageLoadsAndStores : Prop :=
  ∀ (s : State) (a8 : Byte),
    (encode (.ldh_mA8_A a8) = [0xE0, a8] ∧
      ∃ t, exec (.ldh_mA8_A a8) s = .next t ∧ FacadeWrite (0xFF00 + a8.setWidth 16) s.A s t ∧
        Keeps writeParts s t ∧ Costs (.ldh_mA8_A a8) 3 s t) ∧
    (encode (.ldh_A_mA8 a8) = [0xF0, a8] ∧
      ∃ t, exec (.ldh_A_mA8 a8) s = .next t ∧ FacadeRead (0xFF00 + a8.setWidth 16) t.A s t ∧
        Keeps (.reg .A :: readParts) s t ∧ Costs (.ldh_A_mA8 a8) 3 s t) ∧
    (encode .ld_mC_A = [0xE2] ∧
      ∃ t, exec .ld_mC_A s = .next t ∧ FacadeWrite (0xFF00 + s.C.setWidth 16) s.A s t ∧
        Keeps writeParts s t ∧ Costs .ld_mC_A 2 s t) ∧
    (encode .ld_A_mC = [0xF2] ∧
      ∃ t, exec .ld_A_mC s = .next t ∧ FacadeRead (0xFF00 + s.C.setWidth 16) t.A s t ∧
        Keeps (.reg .A :: readParts) s t ∧ Costs .ld_A_mC 2 s t)

/-- LD (a16),A and LD A,(a16): encoding low byte first, effect, frame and cost (R77, R78). -/
def Obligations.AbsoluteLoadAndStore : Prop :=
  ∀ (s : State) (lo hi : Byte),
    (encode (.ld_mA16_A (joinBytes hi lo)) = [0xEA, lo, hi] ∧
      ∃ t, exec (.ld_mA16_A (joinBytes hi lo)) s = .next t ∧ FacadeWrite (joinBytes hi lo) s.A s t ∧
        Keeps writeParts s t ∧ Costs (.ld_mA16_A (joinBytes hi lo)) 4 s t) ∧
    (encode (.ld_A_mA16 (joinBytes hi lo)) = [0xFA, lo, hi] ∧
      ∃ t, exec (.ld_A_mA16 (joinBytes hi lo)) s = .next t ∧ FacadeRead (joinBytes hi lo) t.A s t ∧
        Keeps (.reg .A :: readParts) s t ∧ Costs (.ld_A_mA16 (joinBytes hi lo)) 4 s t)

/-- LD rp,d16: encoding low byte first, effect, frame and cost (R80). -/
def Obligations.LoadPairImmediate : Prop :=
  ∀ (s : State) (p : RP) (lo hi : Byte),
    encode (.ldRpD16 p (joinBytes hi lo)) = [BitVec.ofNat 8 (0x01 + 16 * p.index), lo, hi] ∧
      ∃ t, exec (.ldRpD16 p (joinBytes hi lo)) s = .next t ∧ t.rp p = joinBytes hi lo ∧
        (t.rp p).toNat = 256 * hi.toNat + lo.toNat ∧ Keeps (rpParts p) s t ∧
        Costs (.ldRpD16 p (joinBytes hi lo)) 3 s t

/-- LD (a16),SP: low byte at a16, then high byte at a16 + 1 modulo 65536 (R81, R33, 92_eei_decisions.md
D13). The order of the two writes and the wrap at 0xFFFF are the spec's decision D13. -/
def Obligations.StoreStackPointer : Prop :=
  ∀ (s : State) (a : Word),
    encode (.ld_mA16_SP a) = [0x08, loByte a, hiByte a] ∧
      ∃ t m, exec (.ld_mA16_SP a) s = .next t ∧ FacadeWrite a (loByte s.sp) s m ∧
        FacadeWrite (a + 1) (hiByte s.sp) m t ∧ (∀ x, x ≠ a → x ≠ a + 1 → t.byteAt x = s.byteAt x) ∧
        Keeps writeParts s t ∧ Costs (.ld_mA16_SP a) 5 s t

/-- PUSH rq: encoding, the two descending writes, frame and cost (R82). -/
def Obligations.PushWritesPairBelowStackPointer : Prop :=
  ∀ (s : State) (q : RQ),
    encode (.push q) = [BitVec.ofNat 8 (0xC5 + 16 * q.index)] ∧
      (∃ t, exec (.push q) s = .next t ∧ Pushed (s.rq q) s t ∧ Keeps (.sp :: writeParts) s t ∧
        Costs (.push q) 4 s t) ∧
      hiByte (s.rq .AF) = s.A ∧ loByte (s.rq .AF) = s.F &&& 0xF0

/-- POP rq: encoding, the two ascending reads, the masked F of POP AF, frame and cost (R83). -/
def Obligations.PopReadsPairAboveStackPointer : Prop :=
  ∀ (s : State) (q : RQ),
    encode (.pop q) = [BitVec.ofNat 8 (0xC1 + 16 * q.index)] ∧
      ∃ t v, exec (.pop q) s = .next t ∧ Popped v s t ∧
        (q ≠ .AF → t.rq q = v ∧ t.F = s.F) ∧
        (q = .AF → t.A = hiByte v ∧ FlagsAre (v.getLsbD 7) (v.getLsbD 6) (v.getLsbD 5) (v.getLsbD 4) t) ∧
        Keeps (.sp :: rqParts q ++ readParts) s t ∧ Costs (.pop q) 3 s t

/-- LD HL,SP+e8 (result, both forms of the flags) and LD SP,HL: encoding, frame and cost (R84, R85). -/
def Obligations.TransfersBetweenHLAndStackPointer : Prop :=
  ∀ (s : State) (e : Byte),
    (encode (.ld_HL_SPe8 e) = [0xF8, e] ∧
      ∃ t, exec (.ld_HL_SPe8 e) s = .next t ∧ PlusSigned s.sp e t.hl ∧ SPFlags s.sp e t ∧
        t.fH = decide (t.hl.toNat % 16 < s.sp.toNat % 16) ∧ t.fC = decide (t.hl.toNat % 256 < s.sp.toNat % 256) ∧
        Keeps [.reg .H, .reg .L, .F, .cycles] s t ∧ Costs (.ld_HL_SPe8 e) 3 s t) ∧
    (encode .ld_SP_HL = [0xF9] ∧
      ∃ t, exec .ld_SP_HL s = .next t ∧ t.sp = s.hl ∧ Keeps [.sp, .cycles] s t ∧ Costs .ld_SP_HL 2 s t)

/-- ADD A,v and ADC A,v in all operand forms: result, the four flags, frame and cost (R90, R91, R92). -/
def Obligations.AddWithAndWithoutCarry : Prop :=
  AluForms .add (AddOutcome 0) ∧ AluForms .adc (fun v s t => AddOutcome s.carryIn v s t)

/-- SUB, SBC and CP in all operand forms: result, the four flags, frame and cost (R90, R93, R94, R98). -/
def Obligations.SubtractAndCompare : Prop :=
  AluForms .sub (SubOutcome 0) ∧ AluForms .sbc (fun v s t => SubOutcome s.carryIn v s t) ∧
    AluForms .cp (fun v s t => t.A = s.A ∧ SubFlags 0 v s t)

/-- AND, XOR and OR in all operand forms: result bit by bit, flags, frame and cost (R90, R95, R96, R97). -/
def Obligations.BitwiseLogic : Prop :=
  AluForms .and (LogicOutcome (fun a b => a && b) true) ∧ AluForms .xor (LogicOutcome (fun a b => a ^^ b) false) ∧
    AluForms .or (LogicOutcome (fun a b => a || b) false)

/-- INC and DEC of a register and of (HL): result, flags with carry kept, frame and cost (R99, R100, R101,
R102). -/
def Obligations.IncrementAndDecrementByte : Prop :=
  ∀ s : State,
    (∀ r : R8, encode (.inc (.reg r)) = [BitVec.ofNat 8 (0x04 + 8 * r.index)] ∧
      ∃ t, exec (.inc (.reg r)) s = .next t ∧ (t.reg r).toNat = ((s.reg r).toNat + 1) % 256 ∧
        FlagsAre (decide (t.reg r = 0)) false (decide ((s.reg r).toNat % 16 = 0xF)) s.fC t ∧
        Keeps [.reg r, .F] s t ∧ Costs (.inc (.reg r)) 1 s t) ∧
    (∀ r : R8, encode (.dec (.reg r)) = [BitVec.ofNat 8 (0x05 + 8 * r.index)] ∧
      ∃ t, exec (.dec (.reg r)) s = .next t ∧ (t.reg r).toNat = ((s.reg r).toNat + 255) % 256 ∧
        FlagsAre (decide (t.reg r = 0)) true (decide ((s.reg r).toNat % 16 = 0)) s.fC t ∧
        Keeps [.reg r, .F] s t ∧ Costs (.dec (.reg r)) 1 s t) ∧
    (encode (.inc .mHL) = [0x34] ∧
      ∃ t m old new, exec (.inc .mHL) s = .next t ∧ FacadeRead s.hl old s m ∧ FacadeWrite s.hl new m t ∧
        new.toNat = (old.toNat + 1) % 256 ∧
        FlagsAre (decide (new = 0)) false (decide (old.toNat % 16 = 0xF)) s.fC t ∧
        Keeps (.F :: writeParts) s t ∧ Costs (.inc .mHL) 3 s t) ∧
    (encode (.dec .mHL) = [0x35] ∧
      ∃ t m old new, exec (.dec .mHL) s = .next t ∧ FacadeRead s.hl old s m ∧ FacadeWrite s.hl new m t ∧
        new.toNat = (old.toNat + 255) % 256 ∧
        FlagsAre (decide (new = 0)) true (decide (old.toNat % 16 = 0)) s.fC t ∧
        Keeps (.F :: writeParts) s t ∧ Costs (.dec .mHL) 3 s t)

/-- DAA: result and flags in both branches, frame and cost (R103). -/
def Obligations.DecimalAdjust : Prop :=
  ∀ s : State, encode .daa = [0x27] ∧
    ∃ t, exec .daa s = .next t ∧
      (s.fN = false →
        t.A.toNat = (s.A.toNat + (if s.fH = true ∨ s.A.toNat % 16 > 9 then 0x06 else 0) +
          (if s.fC = true ∨ s.A.toNat > 0x99 then 0x60 else 0)) % 256 ∧
        FlagsAre (decide (t.A = 0)) false false (decide (s.fC = true ∨ s.A.toNat > 0x99)) t) ∧
      (s.fN = true →
        t.A.toNat = (s.A.toNat + 256 - (if s.fH = true then 0x06 else 0) - (if s.fC = true then 0x60 else 0)) % 256 ∧
        FlagsAre (decide (t.A = 0)) true false s.fC t) ∧
      Keeps [.reg .A, .F] s t ∧ Costs .daa 1 s t

/-- ADD, ADC, SUB or SBC of packed decimal bytes and then DAA is decimal addition or subtraction (R91, R92,
R93, R94, R103, 95_test_vectors.md V57 to V59, P5). -/
def Obligations.DecimalAdjustMakesBinaryArithmeticDecimal : Prop :=
  ∀ (s : State) (v : Byte) (x y : Nat), bcdValue s.A = some x → bcdValue v = some y →
    (∃ m t, exec (.aluD8 .add v) s = .next m ∧ exec .daa m = .next t ∧
      bcdValue t.A = some ((x + y) % 100) ∧ t.fC = decide (x + y ≥ 100)) ∧
    (∃ m t, exec (.aluD8 .adc v) s = .next m ∧ exec .daa m = .next t ∧
      bcdValue t.A = some ((x + y + s.carryIn) % 100) ∧ t.fC = decide (x + y + s.carryIn ≥ 100)) ∧
    (∃ m t, exec (.aluD8 .sub v) s = .next m ∧ exec .daa m = .next t ∧
      bcdValue t.A = some ((x + 100 - y) % 100) ∧ t.fC = decide (x < y)) ∧
    (∃ m t, exec (.aluD8 .sbc v) s = .next m ∧ exec .daa m = .next t ∧
      bcdValue t.A = some ((x + 100 - y - s.carryIn) % 100) ∧ t.fC = decide (x < y + s.carryIn))

/-- CPL, SCF and CCF: result, flags, frame and cost (R104, R105, R106). -/
def Obligations.ComplementAndCarryFlagInstructions : Prop :=
  ∀ s : State,
    (encode .cpl = [0x2F] ∧ ∃ t, exec .cpl s = .next t ∧ (∀ i < 8, t.A.getLsbD i = !s.A.getLsbD i) ∧
      FlagsAre s.fZ true true s.fC t ∧ Keeps [.reg .A, .F] s t ∧ Costs .cpl 1 s t) ∧
    (encode .scf = [0x37] ∧ ∃ t, exec .scf s = .next t ∧
      FlagsAre s.fZ false false true t ∧ Keeps [.F] s t ∧ Costs .scf 1 s t) ∧
    (encode .ccf = [0x3F] ∧ ∃ t, exec .ccf s = .next t ∧
      FlagsAre s.fZ false false (!s.fC) t ∧ Keeps [.F] s t ∧ Costs .ccf 1 s t)

/-- ADD HL,rp: result, flags with fZ kept, frame and cost (R110). -/
def Obligations.AddPairToHL : Prop :=
  ∀ (s : State) (p : RP), encode (.addHL p) = [BitVec.ofNat 8 (0x09 + 16 * p.index)] ∧
    ∃ t, exec (.addHL p) s = .next t ∧ t.hl.toNat = (s.hl.toNat + (s.rp p).toNat) % 65536 ∧
      FlagsAre s.fZ false (decide (s.hl.toNat % 4096 + (s.rp p).toNat % 4096 > 0xFFF))
        (decide (s.hl.toNat + (s.rp p).toNat > 0xFFFF)) t ∧
      Keeps [.reg .H, .reg .L, .F, .cycles] s t ∧ Costs (.addHL p) 2 s t

/-- INC rp and DEC rp: result, no flag, frame and cost (R111, R112). -/
def Obligations.IncrementAndDecrementPair : Prop :=
  ∀ (s : State) (p : RP),
    (encode (.incRp p) = [BitVec.ofNat 8 (0x03 + 16 * p.index)] ∧
      ∃ t, exec (.incRp p) s = .next t ∧ (t.rp p).toNat = ((s.rp p).toNat + 1) % 65536 ∧
        Keeps (.cycles :: rpParts p) s t ∧ Costs (.incRp p) 2 s t) ∧
    (encode (.decRp p) = [BitVec.ofNat 8 (0x0B + 16 * p.index)] ∧
      ∃ t, exec (.decRp p) s = .next t ∧ (t.rp p).toNat = ((s.rp p).toNat + 65535) % 65536 ∧
        Keeps (.cycles :: rpParts p) s t ∧ Costs (.decRp p) 2 s t)

/-- ADD SP,e8: result, flags, frame and cost (R113). -/
def Obligations.AddSignedToStackPointer : Prop :=
  ∀ (s : State) (e : Byte), encode (.add_SP_e8 e) = [0xE8, e] ∧
    ∃ t, exec (.add_SP_e8 e) s = .next t ∧ PlusSigned s.sp e t.sp ∧ SPFlags s.sp e t ∧
      Keeps [.sp, .F, .cycles] s t ∧ Costs (.add_SP_e8 e) 4 s t

/-- RLCA, RRCA, RLA, RRA: result bit by bit, fZ always clear, frame and cost (R115, R116, R117, R118). -/
def Obligations.AccumulatorRotates : Prop :=
  ∀ (s : State) (op : RotOp) (i : Instr) (b : Byte),
    (op = .rlc ∧ i = .rlca ∧ b = 0x07) ∨ (op = .rrc ∧ i = .rrca ∧ b = 0x0F) ∨
      (op = .rl ∧ i = .rla ∧ b = 0x17) ∨ (op = .rr ∧ i = .rra ∧ b = 0x1F) →
    encode i = [b] ∧ ∃ t out, exec i s = .next t ∧ Rotated op s.A s.fC t.A out ∧
      FlagsAre false false false out t ∧ Keeps [.reg .A, .F] s t ∧ Costs i 1 s t

/-- RLC RRC RL RR SLA SRA SWAP SRL on a register and on (HL): result bit by bit, flags, frame and cost
(R120, R121, R122, R123, R124, R125, R126, R127). -/
def Obligations.ExtendedRotatesAndShifts : Prop :=
  ∀ (s : State) (op : RotOp),
    (∀ r : R8, encode (.rot op (.reg r)) = [0xCB, BitVec.ofNat 8 (8 * op.index + r.index)] ∧
      ∃ t out, exec (.rot op (.reg r)) s = .next t ∧ Rotated op (s.reg r) s.fC (t.reg r) out ∧
        FlagsAre (decide (t.reg r = 0)) false false out t ∧
        Keeps [.reg r, .F] s t ∧ Costs (.rot op (.reg r)) 2 s t) ∧
    (encode (.rot op .mHL) = [0xCB, BitVec.ofNat 8 (8 * op.index + 6)] ∧
      ∃ t m old new out, exec (.rot op .mHL) s = .next t ∧ FacadeRead s.hl old s m ∧
        Rotated op old s.fC new out ∧ FacadeWrite s.hl new m t ∧
        FlagsAre (decide (new = 0)) false false out t ∧
        Keeps (.F :: writeParts) s t ∧ Costs (.rot op .mHL) 4 s t)

/-- BIT b,v: flags, no write, frame and cost (R128). -/
def Obligations.BitTestSetsZeroFromComplement : Prop :=
  ∀ (s : State) (b : Fin 8),
    (∀ r : R8, encode (.bit b (.reg r)) = [0xCB, BitVec.ofNat 8 (0x40 + 8 * b.val + r.index)] ∧
      ∃ t, exec (.bit b (.reg r)) s = .next t ∧ FlagsAre (!(s.reg r).getLsbD b.val) false true s.fC t ∧
        Keeps [.F] s t ∧ Costs (.bit b (.reg r)) 2 s t) ∧
    (encode (.bit b .mHL) = [0xCB, BitVec.ofNat 8 (0x46 + 8 * b.val)] ∧
      ∃ t v, exec (.bit b .mHL) s = .next t ∧ FacadeRead s.hl v s t ∧
        FlagsAre (!v.getLsbD b.val) false true s.fC t ∧
        Keeps (.F :: readParts) s t ∧ Costs (.bit b .mHL) 3 s t)

/-- RES b,v and SET b,v: exactly one bit changes, no flag, frame and cost (R129, R130). -/
def Obligations.ResetAndSetBit : Prop :=
  ∀ (s : State) (b : Fin 8) (on : Bool),
    let i : Opnd → Instr := fun o => if on then .set b o else .res b o
    let base : Nat := if on then 0xC0 else 0x80
    let bits : Byte → Byte → Prop := fun v w => ∀ k < 8, w.getLsbD k = if k = b.val then on else v.getLsbD k
    (∀ r : R8, encode (i (.reg r)) = [0xCB, BitVec.ofNat 8 (base + 8 * b.val + r.index)] ∧
      ∃ t, exec (i (.reg r)) s = .next t ∧ bits (s.reg r) (t.reg r) ∧
        Keeps [.reg r] s t ∧ Costs (i (.reg r)) 2 s t) ∧
    (encode (i .mHL) = [0xCB, BitVec.ofNat 8 (base + 8 * b.val + 6)] ∧
      ∃ t m old new, exec (i .mHL) s = .next t ∧ FacadeRead s.hl old s m ∧ bits old new ∧
        FacadeWrite s.hl new m t ∧ Keeps writeParts s t ∧ Costs (i .mHL) 4 s t)

/-- JP a16, JP cc,a16 and JP HL: target, both cases of the condition, frame and cost (R136, R137, R138). -/
def Obligations.AbsoluteJumps : Prop :=
  ∀ (s : State) (a : Word) (c : Cond),
    (encode (.jp_a16 a) = [0xC3, loByte a, hiByte a] ∧
      ∃ t, exec (.jp_a16 a) s = .next t ∧ t.pc = a ∧ Keeps [.pc, .cycles] s t ∧ Costs (.jp_a16 a) 4 s t) ∧
    (encode (.jpCc c a) = [BitVec.ofNat 8 (0xC2 + 8 * c.index), loByte a, hiByte a] ∧
      ∃ t, exec (.jpCc c a) s = .next t ∧ Keeps [.pc, .cycles] s t ∧
        (CondHolds c s → t.pc = a ∧ Costs (.jpCc c a) 4 s t) ∧
        (¬ CondHolds c s → t.pc = s.pc ∧ Costs (.jpCc c a) 3 s t)) ∧
    (encode .jp_HL = [0xE9] ∧
      ∃ t, exec .jp_HL s = .next t ∧ t.pc = s.hl ∧ Keeps [.pc] s t ∧ Costs .jp_HL 1 s t)

/-- JR e8 and JR cc,e8: target relative to the next instruction, both cases, frame and cost (R139, R140). -/
def Obligations.RelativeJumps : Prop :=
  ∀ (s : State) (e : Byte) (c : Cond),
    (encode (.jr_e8 e) = [0x18, e] ∧
      ∃ t, exec (.jr_e8 e) s = .next t ∧ PlusSigned s.pc e t.pc ∧ Keeps [.pc, .cycles] s t ∧
        Costs (.jr_e8 e) 3 s t) ∧
    (encode (.jrCc c e) = [BitVec.ofNat 8 (0x20 + 8 * c.index), e] ∧
      ∃ t, exec (.jrCc c e) s = .next t ∧ Keeps [.pc, .cycles] s t ∧
        (CondHolds c s → PlusSigned s.pc e t.pc ∧ Costs (.jrCc c e) 3 s t) ∧
        (¬ CondHolds c s → t.pc = s.pc ∧ Costs (.jrCc c e) 2 s t))

/-- CALL a16 and CALL cc,a16: return address, target, both cases, frame and cost (R141, R142). -/
def Obligations.CallsPushTheReturnAddress : Prop :=
  ∀ (s : State) (a : Word) (c : Cond),
    (encode (.call_a16 a) = [0xCD, loByte a, hiByte a] ∧
      ∃ t, exec (.call_a16 a) s = .next t ∧ Pushed s.pc s t ∧ t.pc = a ∧
        Keeps (.pc :: .sp :: writeParts) s t ∧ Costs (.call_a16 a) 6 s t) ∧
    (encode (.callCc c a) = [BitVec.ofNat 8 (0xC4 + 8 * c.index), loByte a, hiByte a] ∧
      ∃ t, exec (.callCc c a) s = .next t ∧
        (CondHolds c s → Pushed s.pc s t ∧ t.pc = a ∧ Keeps (.pc :: .sp :: writeParts) s t ∧
          Costs (.callCc c a) 6 s t) ∧
        (¬ CondHolds c s → Keeps [] s t ∧ Costs (.callCc c a) 3 s t))

/-- RET and RET cc: popped address, both cases, frame and cost (R143, R144). -/
def Obligations.ReturnsPopTheReturnAddress : Prop :=
  ∀ (s : State) (c : Cond),
    (encode .ret = [0xC9] ∧
      ∃ t, exec .ret s = .next t ∧ Popped t.pc s t ∧ Keeps (.pc :: .sp :: readParts) s t ∧ Costs .ret 4 s t) ∧
    (encode (.retCc c) = [BitVec.ofNat 8 (0xC0 + 8 * c.index)] ∧
      ∃ t, exec (.retCc c) s = .next t ∧
        (CondHolds c s → Popped t.pc s t ∧ Keeps (.pc :: .sp :: readParts) s t ∧ Costs (.retCc c) 5 s t) ∧
        (¬ CondHolds c s → Keeps [.cycles] s t ∧ Costs (.retCc c) 2 s t))

/-- RETI: RET plus IME = 1 at once (R145, R173, 92_eei_decisions.md D7, D19). That the gate is set at once
is the spec's decision D7, D19. -/
def Obligations.ReturnFromInterruptSetsTheGate : Prop :=
  ∀ s : State, encode .reti = [0xD9] ∧
    ∃ t, exec .reti s = .next t ∧ Popped t.pc s t ∧ t.IME = true ∧
      Keeps (.pc :: .sp :: .IME :: readParts) s t ∧ Costs .reti 4 s t

/-- RST n: return address, target 8*y, IME unchanged, frame and cost (R146). -/
def Obligations.RestartCallsFixedAddress : Prop :=
  ∀ (s : State) (y : Fin 8), encode (.rst y) = [BitVec.ofNat 8 (0xC7 + 8 * y.val)] ∧
    ∃ t, exec (.rst y) s = .next t ∧ Pushed s.pc s t ∧ t.pc.toNat = 8 * y.val ∧
      Keeps (.pc :: .sp :: writeParts) s t ∧ Costs (.rst y) 4 s t

/-- NOP, as a whole step: pc + 1, nothing else, one cycle (R150). -/
def Obligations.NoOperationChangesNothing : Prop :=
  (∀ s : State, encode .nop = [0x00] ∧ ∃ t, exec .nop s = .next t ∧ Keeps [] s t) ∧
  ∀ s : State, s.inbox = [] → NoDispatch s → (s.kindAt s.pc = .ram ∨ s.kindAt s.pc = .rom) → s.byteAt s.pc = 0x00 →
    ∃ t, step s = .next t ∧ t.pc.toNat = (s.pc.toNat + 1) % 65536 ∧ t.cycles = 1 ∧ Keeps [.pc, .cycles] s t

/-- HALT, STOP and the eleven undefined bytes have no effect after the fetch (R153, R154, R155,
92_eei_decisions.md D4, D5, D6). That these bytes are no-operations, and which bytes are unassigned, is the
spec's decision D4, D5, D6. -/
def Obligations.UndefinedHaltAndStopAreNoOperations : Prop :=
  ∀ (s : State) (i : Instr) (b : Byte),
    (i, b) ∈ [(.halt, 0x76), (.stop, 0x10), (.undef_D3, 0xD3), (.undef_DB, 0xDB), (.undef_DD, 0xDD), (.undef_E3, 0xE3),
      (.undef_E4, 0xE4), (.undef_EB, 0xEB), (.undef_EC, 0xEC), (.undef_ED, 0xED), (.undef_F4, 0xF4), (.undef_FC, 0xFC),
      ((.undef_FD : Instr), (0xFD : Byte))] →
    encode i = [b] ∧ ∃ t, exec i s = .next t ∧ Keeps [] s t ∧ Costs i 1 s t

/-- DI clears IME and EI sets it, at once; nothing else changes (R151, R152, 92_eei_decisions.md D7). That
EI takes effect at once is the spec's decision D7. -/
def Obligations.DisableAndEnableWriteTheGate : Prop :=
  ∀ s : State,
    (encode .di = [0xF3] ∧ ∃ t, exec .di s = .next t ∧ t.IME = false ∧ Keeps [.IME] s t ∧ Costs .di 1 s t) ∧
    (encode .ei = [0xFB] ∧ ∃ t, exec .ei s = .next t ∧ t.IME = true ∧ Keeps [.IME] s t ∧ Costs .ei 1 s t)

/-- Some words written out from the maps decode to the instructions they stand for (R47, R48, R49). -/
def Obligations.SampleWordsDecode : Prop :=
  decode [0x41] = .ok (.ld_B_C, []) ∧ decode [0x06, 0x2A] = .ok (.ld_B_d8 0x2A, []) ∧
  decode [0x21, 0x34, 0x12] = .ok (.ld_HL_d16 0x1234, []) ∧ decode [0xF5] = .ok (.push_AF, []) ∧
  decode [0x8E] = .ok (.adc_A_mHL, []) ∧ decode [0x19] = .ok (.add_HL_DE, []) ∧ decode [0x1F] = .ok (.rra, []) ∧
  decode [0xCB, 0x7C] = .ok (.bit_7_H, []) ∧ decode [0xDC, 0x00, 0x20] = .ok (.call_C_a16 0x2000, []) ∧
  decode [0x76] = .ok (.halt, []) ∧ decode [0xCB, 0xCB] = .ok (.set_1_E, [])

/-- Decoding the bytes of any instruction, followed by anything, gives it back (R45, R47, R48, R49, R52). -/
def Obligations.DecodeInvertsEncode : Prop :=
  ∀ (i : Instr) (rest : List Byte), i.wf = true → decode (encode i ++ rest) = .ok (i, rest)

/-- Every three bytes begin with the encoding of the instruction they decode to (R52). -/
def Obligations.EncodeInvertsDecode : Prop :=
  ∀ b0 b1 b2 : Byte, ∃ (i : Instr) (rest : List Byte), decode [b0, b1, b2] = .ok (i, rest) ∧
    encode i ++ rest = [b0, b1, b2] ∧ (encode i).length = instrLength b0 ∧ 1 ≤ instrLength b0 ∧ instrLength b0 ≤ 3 ∧
    (b0 = 0xCB → instrLength b0 = 2)

/-- No instruction's bytes begin another instruction's bytes (R45, R49, R52). -/
def Obligations.EncodingIsPrefixFree : Prop :=
  ∀ i j : Instr, encode i <+: encode j → i = j

/-- When the stored bytes at pc decode to an instruction, the step is exec of it, past its bytes (R15, R37,
R156, R170, notes/assumptions/6.md, notes/assumptions/10.md). That all bytes of the instruction, its
operands included, are fetched before its meaning runs is the model's reading (log entry 10, DEDUCED); the
environment's list of moves is the model's form (log entry 6). -/
def Obligations.StepRunsTheDecodedInstruction : Prop :=
  ∀ (s : State) (i : Instr) (rest : List Byte), NoDispatch s.environment →
    (∀ k < (encode i).length, s.environment.kindAt (s.environment.pc + BitVec.ofNat 16 k) = .ram ∨
      s.environment.kindAt (s.environment.pc + BitVec.ofNat 16 k) = .rom) →
    decode [s.environment.byteAt s.environment.pc, s.environment.byteAt (s.environment.pc + 1),
      s.environment.byteAt (s.environment.pc + 2)] = .ok (i, rest) →
    step s = exec i { s.environment with
      pc := s.environment.pc + BitVec.ofNat 16 (encode i).length
      cycles := BitVec.ofNat 8 (encode i).length }

/-- Whatever stands behind pc, the step fetches the bytes one by one and runs what they decode to (R37, R41,
notes/assumptions/6.md, notes/assumptions/10.md). That all bytes of the instruction, its operands included,
are fetched before its meaning runs is the model's reading (log entry 10, DEDUCED): ExecuteOne itself
fetches only the opcode and, after the prefix, the second byte, and each rule fetches its own operands. The
environment's list of moves is the model's form (log entry 6). -/
def Obligations.StepFetchesThroughTheFacade : Prop :=
  ∀ s : State, NoDispatch s.environment → ∃ (i : Instr) (m : State), step s = exec i m ∧
    ((∃ b0, Fetched b0 s.environment.beginTick m ∧ decode [b0] = .ok (i, [])) ∨
     (∃ b0 b1 m1, Fetched b0 s.environment.beginTick m1 ∧ Fetched b1 m1 m ∧ decode [b0, b1] = .ok (i, [])) ∨
     (∃ b0 b1 b2 m1 m2, Fetched b0 s.environment.beginTick m1 ∧ Fetched b1 m1 m2 ∧ Fetched b2 m2 m ∧
       decode [b0, b1, b2] = .ok (i, [])))

/-- The core is total: every step from every state answers a next state (R3). -/
def Obligations.StepNeverStops : Prop :=
  (∀ s : State, ∃ t, step s = .next t) ∧ ∀ (i : Instr) (s : State), ∃ t, exec i s = .next t

/-- Every step keeps F[3:0] = 0 and the canonical form of memory (R12, R30, notes/assumptions/3.md). That
F[3:0] = 0 is the spec's; that memory is a list in canonical form is the model's own choice (log entry 3,
DESIGN CHOICE). -/
def Obligations.StepKeepsInvariant : Prop :=
  ∀ s t : State, s.Inv → step s = .next t → t.Inv

/-- Power-on with any RESET leaves F[3:0] = 0 and memory in canonical form (R12, notes/assumptions/3.md).
The clauses on F are the spec's; that memory has a canonical form, met at power-on, is the model's own
choice (log entry 3, DESIGN CHOICE). -/
def Obligations.ResetSatisfiesInvariant : Prop :=
  (∀ p : Params, (State.powerOn p).Inv) ∧ State.reset.Inv ∧
    (∀ s : State, s.readF &&& 0x0F = 0) ∧ ∀ (s : State) (v : Byte), (s.writeF v).F = v &&& 0xF0

/-- Reset leaves IE = IF = 0 and IME = 0, at power-on and when applied later (R24). -/
def Obligations.ResetClosesGateAndClearsMasks : Prop :=
  (∀ p : Params, (State.powerOn p).IE = 0x00 ∧ (State.powerOn p).IF = 0x00 ∧ (State.powerOn p).IME = false) ∧
    ∀ s : State, (s.applyMove .powerOnReset).IE = 0x00 ∧ (s.applyMove .powerOnReset).IF = 0x00 ∧
      (s.applyMove .powerOnReset).IME = false

/-- An interrupt dispatch: source, gate, pending bit, pushed pc, service address, cost and frame (R165,
R166, R167, R168, R169, 92_eei_decisions.md D18). The order of the sub-steps is the spec's decision D18. -/
def Obligations.DispatchSequence : Prop :=
  ∀ (s : State) (n : Nat), Dispatches n s.environment →
    ∃ t, step s = .next t ∧ t.IME = false ∧ t.pc = BitVec.ofNat 16 (0x40 + 8 * n) ∧
      t.cycles = s.environment.cfg.dispatchCycles ∧
      Pushed s.environment.pc
        { s.environment with IME := false, IF := s.environment.IF &&& ~~~ ((1 : Byte) <<< n) } t ∧
      Keeps (.IME :: .pc :: .sp :: writeParts) s.environment t

/-- A dispatch happens exactly when IME = 1 and IE & IF & 0x1F is not zero (R165). -/
def Obligations.DispatchExactlyWhenGateAndRequest : Prop :=
  ∀ s : State,
    (s.environment.IME = true ∧ s.environment.IE &&& s.environment.IF &&& 0x1F ≠ 0 →
      ∃ n t, Dispatches n s.environment ∧ step s = .next t ∧ t.IME = false ∧ t.pc = BitVec.ofNat 16 (0x40 + 8 * n)) ∧
    (¬ (s.environment.IME = true ∧ s.environment.IE &&& s.environment.IF &&& 0x1F ≠ 0) →
      step s = exec (s.environment.beginTick.fetchInstr).1 (s.environment.beginTick.fetchInstr).2 ∧
      s.environment.beginTick.IME = s.environment.IME ∧ s.environment.beginTick.IE = s.environment.IE ∧
      s.environment.beginTick.IF = s.environment.IF)

/-- After a dispatch the other sources stay pending and the next tick dispatches none of them (R171). -/
def Obligations.OneDispatchLeavesTheRestPending : Prop :=
  ∀ (s t : State) (n : Nat), s.environment.plainFacade → Dispatches n s.environment → step s = .next t →
    t.IE = s.environment.IE ∧
    (∀ k < 8, t.IF.getLsbD k = if k = n then false else s.environment.IF.getLsbD k) ∧ NoDispatch t ∧
    (t.inbox = [] → step t = exec (t.beginTick.fetchInstr).1 (t.beginTick.fetchInstr).2)

/-- The complete list of writers of IME: reset, dispatch, DI, EI, RETI (R164). -/
def Obligations.WritersOfTheGate : Prop :=
  (∀ (i : Instr) (s t : State), exec i s = .next t →
      t.IME = if i = .di then false else if i = .ei ∨ i = .reti then true else s.IME) ∧
    (∀ (s : State) (m : EnvMove), (s.applyMove m).IME = if m = .powerOnReset then false else s.IME) ∧
    ∀ (s : State) (n : Source), (s.dispatch n).IME = false

/-- No instruction writes IE or IF unless the facade routes the access to them (R18, R19, R163, R177,
notes/assumptions/5.md, notes/assumptions/18.md). The fields facade, which codes the facade's own state, and
asked, which counts device answers, are the model's own form (log entries 5 and 18, DESIGN CHOICE). -/
def Obligations.InstructionsReachMasksOnlyThroughTheFacade : Prop :=
  ∀ (i : Instr) (s t : State), s.plainFacade → exec i s = .next t → t.IE = s.IE ∧ t.IF = s.IF ∧
    t.facade = s.facade ∧ t.asked = s.asked

/-- The port's operations and the environment's changes behind the facade, made in order before the tick
(R163, R28, 92_eei_decisions.md D12, D21, notes/assumptions/5.md, notes/assumptions/6.md,
notes/assumptions/18.md). When the port may be used and the range of RequestInterrupt are the spec's
decisions D12 and D21. The fields inbox and facade are the model's own form: facade codes the facade's own
state (log entries 5 and 18), and inbox, with one list of moves for each coming tick, made in order just
before it, the later lists kept, is log entry 6 (DEDUCED from R28 and D12, the form as a list a DESIGN
CHOICE). -/
def Obligations.PortOperationsBetweenTicks : Prop :=
  (∀ (s : State) (v : Byte), (s.applyMove (.writeIE v)).IE = v ∧ Keeps [.IE] s (s.applyMove (.writeIE v)) ∧
      (s.applyMove (.writeIF v)).IF = v ∧ Keeps [.IF] s (s.applyMove (.writeIF v))) ∧
    (∀ (s : State) (n : Source), Keeps [.IF] s (s.applyMove (.requestInterrupt n)) ∧
      ∀ k < 8, (s.applyMove (.requestInterrupt n)).IF.getLsbD k = (decide (k = n.bit) || s.IF.getLsbD k)) ∧
    (∀ (s : State) (a : Word) (v : Byte), (s.applyMove (.changeMemory a v)).byteAt a = v ∧
      (∀ x, x ≠ a → (s.applyMove (.changeMemory a v)).byteAt x = s.byteAt x) ∧
      Keeps [.memory] s (s.applyMove (.changeMemory a v))) ∧
    (∀ (s : State) (n : Nat), (s.applyMove (.changeFacade n)).facade = n ∧
      Keeps [.facade] s (s.applyMove (.changeFacade n))) ∧
    ∀ (s : State) (m : EnvMove) (moves : List EnvMove) (later : List (List EnvMove)),
      step { s with inbox := [] :: later } = tick { s with inbox := later } ∧
      step { s with inbox := (m :: moves) :: later } = step { (s.applyMove m) with inbox := moves :: later }

/-- EI with a source pending: the very next tick dispatches, before the instruction after EI (R152, R187,
92_eei_decisions.md D7, D8). That EI takes effect at once is the spec's decision D7. -/
def Obligations.EnableThenDispatchAtTheNextTick : Prop :=
  ∀ (s : State) (n : Nat), s.plainFacade → s.inbox = [] → s.IME = false → Dispatches n { s with IME := true } →
    s.byteAt s.pc = 0xFB →
    ∃ m t, step s = .next m ∧ m.IME = true ∧ m.pc = s.pc + 1 ∧ m.cycles = 1 ∧
      step m = .next t ∧ t.IME = false ∧ t.pc = BitVec.ofNat 16 (0x40 + 8 * n) ∧ Pushed (s.pc + 1) { m with IME := false, IF := m.IF &&& ~~~ ((1 : Byte) <<< n) } t

/-- A handler that only returns with RETI resumes the interrupted instruction with the gate set (R167, R173,
R145, R44). -/
def Obligations.DispatchThenReturnResumes : Prop :=
  ∀ (s : State) (n : Nat), Dispatches n s.environment →
    s.environment.kindAt (s.environment.sp - 1) = .ram → s.environment.kindAt (s.environment.sp - 2) = .ram →
    ∃ m t, step s = .next m ∧ exec .reti m = .next t ∧ t.pc = s.environment.pc ∧ t.sp = s.environment.sp ∧
      t.IME = true ∧ t.F = s.environment.F ∧ (∀ r, t.reg r = s.environment.reg r)

/-- PUSH then POP of the same pair in RAM restores the pair and sp (R44). -/
def Obligations.PushThenPopRestores : Prop :=
  ∀ (s : State) (q : RQ), s.kindAt (s.sp - 1) = .ram → s.kindAt (s.sp - 2) = .ram →
    ∃ m t, exec (.push q) s = .next m ∧ exec (.pop q) m = .next t ∧
      m.sp = s.sp - 2 ∧ m.byteAt (s.sp - 1) = hiByte (s.rq q) ∧ m.byteAt (s.sp - 2) = loByte (s.rq q) ∧
      m.cycles = s.cycles + 3 ∧ t.cycles = m.cycles + 2 ∧
      t.rq q = s.rq q ∧ t.sp = s.sp ∧ (∀ r, t.reg r = s.reg r) ∧ t.readF = s.readF ∧
      ∀ x, x ≠ s.sp - 1 → x ≠ s.sp - 2 → t.byteAt x = s.byteAt x

/-- The cost of every instruction is the table's, taken or not, whatever the data and the facade (R190). -/
def Obligations.CyclesFollowTheCostTable : Prop :=
  ∀ (i : Instr) (s : State), ∃ t, exec i s = .next t ∧
    (Taken i s → Costs i (tableCycles true i) s t) ∧ (¬ Taken i s → Costs i (tableCycles false i) s t) ∧
    (condition i = none → tableCycles true i = tableCycles false i)

/-- After every tick cycles is INT_DISPATCH_CYCLES or from 1 to 6 (R43, R169, R170, R189). -/
def Obligations.EveryTickCostsOneToSixOrTheDispatchCost : Prop :=
  ∀ s : State, ∃ t, step s = .next t ∧
    (NoDispatch s.environment → 1 ≤ t.cycles.toNat ∧ t.cycles.toNat ≤ 6) ∧
    (¬ NoDispatch s.environment → t.cycles = s.environment.cfg.dispatchCycles)

/-- What a step answers does not depend on the cycle counter before it (R21, R176, R189). -/
def Obligations.CyclesIsAnOutputOnly : Prop :=
  ∀ (s : State) (c : Byte), step { s with cycles := c } = step s

/-- Only the thirty control transfers write pc (R15, R187). -/
def Obligations.StraightLineInstructionsKeepPC : Prop :=
  ∀ (i : Instr) (s t : State), isTransfer i = false → exec i s = .next t → t.pc = s.pc

/-- JR -2 steps to itself: everything but cycles unchanged (R139, R191). -/
def Obligations.SelfJumpIsAFixedPoint : Prop :=
  ∀ s : State, s.inbox = [] → NoDispatch s → s.plainFacade → s.byteAt s.pc = 0x18 → s.byteAt (s.pc + 1) = 0xFE →
    ∃ t, step s = .next t ∧ t.cycles = 3 ∧ Keeps [.cycles] s t

/-- No step changes the parameters, and the count of device answers never goes down (R5,
notes/assumptions/4.md, notes/assumptions/5.md, notes/assumptions/6.md, notes/assumptions/18.md). This
states the model's own choices, but for R5, which makes RESET and the dispatch cost parameters: the field
cfg (log entry 18, DESIGN CHOICE), the facade as a map of regions (log entry 4, DESIGN CHOICE) that stays
fixed during a run (log entry 6, DEDUCED), and the field asked, which counts the device accesses answered
(log entries 5 and 18, DESIGN CHOICE). -/
def Obligations.ParametersNeverChange : Prop :=
  ∀ s t : State, step s = .next t → t.cfg = s.cfg ∧ s.asked ≤ t.asked
end

