-- ==== Sys2Proof/Laws/Memory.lean ====
section
/-! SUPPORT. The laws of the facade's stored bytes: reading after writing, and that every memory
operation keeps the canonical form. The reading laws need no canonical form. -/

namespace Sys2Proof.Machine

theorem Memory.read_erase_same (m : Memory) (a : Nat) : (m.erase a).read a = Config.unlistedByte := by
  induction m with
  | nil => rfl
  | cons c rest ih =>
    obtain ⟨x, w⟩ := c
    by_cases h : x = a
    · simpa [Memory.erase, h] using ih
    · have h' : (x != a) = true := by simpa using h
      simpa [Memory.erase, h', Memory.read, h] using ih

theorem Memory.read_erase_other (m : Memory) {a b : Nat} (h : b ≠ a) : (m.erase a).read b = m.read b := by
  induction m with
  | nil => rfl
  | cons c rest ih =>
    obtain ⟨x, w⟩ := c
    by_cases hx : x = a
    · have hb : x ≠ b := fun e => h (e ▸ hx)
      simpa [Memory.erase, hx, Memory.read, hx ▸ hb] using ih
    · have hx' : (x != a) = true := by simpa using hx
      by_cases hb : x = b
      · simp [Memory.erase, hb ▸ hx', Memory.read, hb]
      · simpa [Memory.erase, hx', Memory.read, hb] using ih

theorem Memory.read_insert_other (m : Memory) {a b : Nat} (v : Byte) (h : b ≠ a) :
    (m.insert a v).read b = m.read b := by
  induction m with
  | nil => simp [Memory.insert, Memory.read, Ne.symm h]
  | cons c rest ih =>
    obtain ⟨x, w⟩ := c
    by_cases hx : a < x
    · simp [Memory.insert, hx, Memory.read, Ne.symm h]
    · simp [Memory.insert, hx, Memory.read, ih]

/-- Where `a` is not listed, inserting it makes it read as `v`. -/
theorem Memory.read_insert_same (m : Memory) (a : Nat) (v : Byte) (h : ∀ c ∈ m, c.1 ≠ a) :
    (m.insert a v).read a = v := by
  induction m with
  | nil => simp [Memory.insert, Memory.read]
  | cons c rest ih =>
    obtain ⟨x, w⟩ := c
    have hx : x ≠ a := h (x, w) (by simp)
    by_cases hlt : a < x
    · simp [Memory.insert, hlt, Memory.read]
    · simpa [Memory.insert, hlt, Memory.read, hx] using ih (fun c hc => h c (by simp [hc]))

theorem Memory.erase_unlisted (m : Memory) (a : Nat) : ∀ c ∈ m.erase a, c.1 ≠ a := by
  intro c hc
  simpa using (List.mem_filter.1 hc).2

/-- A read after a write to the same address gives the byte written. -/
@[simp] theorem Memory.read_write_same (m : Memory) (a : Nat) (v : Byte) : (m.write a v).read a = v := by
  unfold Memory.write
  split
  · next h => rw [Memory.read_erase_same, h]
  · exact Memory.read_insert_same _ _ _ (Memory.erase_unlisted m a)

/-- A write leaves every other address alone. -/
theorem Memory.read_write_other (m : Memory) {a b : Nat} (v : Byte) (h : b ≠ a) :
    (m.write a v).read b = m.read b := by
  unfold Memory.write
  split
  · exact Memory.read_erase_other m h
  · rw [Memory.read_insert_other _ v h, Memory.read_erase_other m h]

theorem Memory.wfFrom_mono {lo lo' : Nat} (hle : lo' ≤ lo) {m : Memory} (h : m.wfFrom lo = true) :
    m.wfFrom lo' = true := by
  cases m with
  | nil => rfl
  | cons c rest =>
    obtain ⟨x, w⟩ := c
    simp only [Memory.wfFrom, Bool.and_eq_true, decide_eq_true_eq] at h ⊢
    exact ⟨⟨⟨hle.trans h.1.1.1, h.1.1.2⟩, h.1.2⟩, h.2⟩

theorem Memory.wfFrom_erase {m : Memory} {lo : Nat} (a : Nat) (h : m.wfFrom lo = true) :
    (m.erase a).wfFrom lo = true := by
  induction m generalizing lo with
  | nil => rfl
  | cons c rest ih =>
    obtain ⟨x, w⟩ := c
    simp only [Memory.wfFrom, Bool.and_eq_true, decide_eq_true_eq] at h
    obtain ⟨⟨⟨hlo, hx⟩, hw⟩, hrest⟩ := h
    by_cases he : x = a
    · have := Memory.wfFrom_mono (Nat.le_succ_of_le hlo) (ih hrest)
      simpa [Memory.erase, he] using this
    · have he' : (x != a) = true := by simpa using he
      have := ih hrest
      simp only [Memory.erase, List.filter_cons, he', if_true] at this ⊢
      simp only [Memory.wfFrom, Bool.and_eq_true, decide_eq_true_eq]
      exact ⟨⟨⟨hlo, hx⟩, hw⟩, this⟩

theorem Memory.wfFrom_insert {m : Memory} {lo a : Nat} {v : Byte} (hlo : lo ≤ a) (ha : a < 65536)
    (hv : v ≠ Config.unlistedByte) (hun : ∀ c ∈ m, c.1 ≠ a) (h : m.wfFrom lo = true) :
    (m.insert a v).wfFrom lo = true := by
  induction m generalizing lo with
  | nil => simp [Memory.insert, Memory.wfFrom, hlo, ha, hv]
  | cons c rest ih =>
    obtain ⟨x, w⟩ := c
    simp only [Memory.wfFrom, Bool.and_eq_true, decide_eq_true_eq] at h
    obtain ⟨⟨⟨hlox, hx⟩, hw⟩, hrest⟩ := h
    have hxa : x ≠ a := hun (x, w) (by simp)
    by_cases hlt : a < x
    · simp only [Memory.insert, hlt, if_true, Memory.wfFrom, Bool.and_eq_true, decide_eq_true_eq]
      exact ⟨⟨⟨hlo, ha⟩, by simpa using hv⟩, ⟨⟨hlt, hx⟩, hw⟩, hrest⟩
    · have hrec := ih (lo := x + 1) (by omega) (fun c hc => hun c (by simp [hc])) hrest
      simp only [Memory.insert, hlt, if_false, Memory.wfFrom, Bool.and_eq_true, decide_eq_true_eq]
      exact ⟨⟨⟨hlox, hx⟩, hw⟩, hrec⟩

/-- A write inside the address space keeps the canonical form. -/
theorem Memory.wf_write {m : Memory} {a : Nat} (v : Byte) (ha : a < 65536) (h : m.wf = true) :
    (m.write a v).wf = true := by
  unfold Memory.write Memory.wf at *
  split
  · exact Memory.wfFrom_erase a h
  · next hv =>
    exact Memory.wfFrom_insert (Nat.zero_le a) ha hv (Memory.erase_unlisted m a) (Memory.wfFrom_erase a h)

/-- Every write of the core or of the environment is at a 16-bit address. -/
theorem Memory.wf_write_word {m : Memory} (a : Word) (v : Byte) (h : m.wf = true) :
    (m.write a.toNat v).wf = true := Memory.wf_write v a.isLt h

end Sys2Proof.Machine
end

