-- ==== Sys2Proof/Laws/State.lean ====
section
/-! SUPPORT. The small lemmas of every update of `State`: for each update and each field, what the field is
afterwards, tagged `@[simp]`, so that no proof unfolds an update; then the same for the views (`reg`,
`byteAt`, `kindAt`, the flags, the pairs). -/

namespace Sys2Proof.Machine

/-! ### Bytes of a word -/

theorem joinBytes_toNat (hi lo : Byte) : (joinBytes hi lo).toNat = 256 * hi.toNat + lo.toNat := by
  simp only [joinBytes, BitVec.toNat_ofNat]; omega

theorem hiByte_toNat (v : Word) : (hiByte v).toNat = v.toNat / 256 := by
  simp [hiByte]; omega

theorem loByte_toNat (v : Word) : (loByte v).toNat = v.toNat % 256 := by
  simp [loByte]

@[simp] theorem hiByte_joinBytes (hi lo : Byte) : hiByte (joinBytes hi lo) = hi := by
  apply BitVec.eq_of_toNat_eq; rw [hiByte_toNat, joinBytes_toNat]; omega

@[simp] theorem loByte_joinBytes (hi lo : Byte) : loByte (joinBytes hi lo) = lo := by
  apply BitVec.eq_of_toNat_eq; rw [loByte_toNat, joinBytes_toNat]; omega

@[simp] theorem joinBytes_hi_lo (v : Word) : joinBytes (hiByte v) (loByte v) = v := by
  apply BitVec.eq_of_toNat_eq; rw [joinBytes_toNat, hiByte_toNat, loByte_toNat]; omega

/-! ### `setReg` -/

@[simp] theorem State.setReg_F (s : State) (r : R8) (v : Byte) : (s.setReg r v).F = s.F := by cases r <;> rfl
@[simp] theorem State.setReg_sp (s : State) (r : R8) (v : Byte) : (s.setReg r v).sp = s.sp := by cases r <;> rfl
@[simp] theorem State.setReg_pc (s : State) (r : R8) (v : Byte) : (s.setReg r v).pc = s.pc := by cases r <;> rfl
@[simp] theorem State.setReg_IME (s : State) (r : R8) (v : Byte) : (s.setReg r v).IME = s.IME := by cases r <;> rfl
@[simp] theorem State.setReg_IE (s : State) (r : R8) (v : Byte) : (s.setReg r v).IE = s.IE := by cases r <;> rfl
@[simp] theorem State.setReg_IF (s : State) (r : R8) (v : Byte) : (s.setReg r v).IF = s.IF := by cases r <;> rfl
@[simp] theorem State.setReg_cycles (s : State) (r : R8) (v : Byte) : (s.setReg r v).cycles = s.cycles := by cases r <;> rfl
@[simp] theorem State.setReg_mem (s : State) (r : R8) (v : Byte) : (s.setReg r v).mem = s.mem := by cases r <;> rfl
@[simp] theorem State.setReg_facade (s : State) (r : R8) (v : Byte) : (s.setReg r v).facade = s.facade := by cases r <;> rfl
@[simp] theorem State.setReg_asked (s : State) (r : R8) (v : Byte) : (s.setReg r v).asked = s.asked := by cases r <;> rfl
@[simp] theorem State.setReg_cfg (s : State) (r : R8) (v : Byte) : (s.setReg r v).cfg = s.cfg := by cases r <;> rfl
@[simp] theorem State.setReg_inbox (s : State) (r : R8) (v : Byte) : (s.setReg r v).inbox = s.inbox := by cases r <;> rfl
@[simp] theorem State.setReg_byteAt (s : State) (r : R8) (v : Byte) (y : Word) : (s.setReg r v).byteAt y = s.byteAt y := by simp [State.byteAt]
@[simp] theorem State.setReg_kindAt (s : State) (r : R8) (v : Byte) (y : Word) : (s.setReg r v).kindAt y = s.kindAt y := by simp [State.kindAt]
@[simp] theorem State.setReg_fZ (s : State) (r : R8) (v : Byte) : (s.setReg r v).fZ = s.fZ := by simp [State.fZ]
@[simp] theorem State.setReg_fN (s : State) (r : R8) (v : Byte) : (s.setReg r v).fN = s.fN := by simp [State.fN]
@[simp] theorem State.setReg_fH (s : State) (r : R8) (v : Byte) : (s.setReg r v).fH = s.fH := by simp [State.fH]
@[simp] theorem State.setReg_fC (s : State) (r : R8) (v : Byte) : (s.setReg r v).fC = s.fC := by simp [State.fC]
@[simp] theorem State.setReg_flags (s : State) (r : R8) (v : Byte) : (s.setReg r v).flags = s.flags := by simp [State.flags]
@[simp] theorem State.setReg_readF (s : State) (r : R8) (v : Byte) : (s.setReg r v).readF = s.readF := by simp [State.readF]

@[simp] theorem State.setReg_reg (s : State) (r q : R8) (v : Byte) :
    (s.setReg r v).reg q = if q = r then v else s.reg q := by cases r <;> cases q <;> rfl
@[simp] theorem State.setReg_A_A (s : State) (v : Byte) : (s.setReg .A v).A = v := rfl

theorem State.reg_A (s : State) : s.reg .A = s.A := rfl

/-! ### `writeF` -/

@[simp] theorem State.writeF_A (s : State) (v : Byte) : (s.writeF v).A = s.A := rfl
@[simp] theorem State.writeF_F (s : State) (v : Byte) : (s.writeF v).F = v &&& 0xF0 := rfl
@[simp] theorem State.writeF_B (s : State) (v : Byte) : (s.writeF v).B = s.B := rfl
@[simp] theorem State.writeF_C (s : State) (v : Byte) : (s.writeF v).C = s.C := rfl
@[simp] theorem State.writeF_D (s : State) (v : Byte) : (s.writeF v).D = s.D := rfl
@[simp] theorem State.writeF_E (s : State) (v : Byte) : (s.writeF v).E = s.E := rfl
@[simp] theorem State.writeF_H (s : State) (v : Byte) : (s.writeF v).H = s.H := rfl
@[simp] theorem State.writeF_L (s : State) (v : Byte) : (s.writeF v).L = s.L := rfl
@[simp] theorem State.writeF_sp (s : State) (v : Byte) : (s.writeF v).sp = s.sp := rfl
@[simp] theorem State.writeF_pc (s : State) (v : Byte) : (s.writeF v).pc = s.pc := rfl
@[simp] theorem State.writeF_IME (s : State) (v : Byte) : (s.writeF v).IME = s.IME := rfl
@[simp] theorem State.writeF_IE (s : State) (v : Byte) : (s.writeF v).IE = s.IE := rfl
@[simp] theorem State.writeF_IF (s : State) (v : Byte) : (s.writeF v).IF = s.IF := rfl
@[simp] theorem State.writeF_cycles (s : State) (v : Byte) : (s.writeF v).cycles = s.cycles := rfl
@[simp] theorem State.writeF_mem (s : State) (v : Byte) : (s.writeF v).mem = s.mem := rfl
@[simp] theorem State.writeF_facade (s : State) (v : Byte) : (s.writeF v).facade = s.facade := rfl
@[simp] theorem State.writeF_asked (s : State) (v : Byte) : (s.writeF v).asked = s.asked := rfl
@[simp] theorem State.writeF_cfg (s : State) (v : Byte) : (s.writeF v).cfg = s.cfg := rfl
@[simp] theorem State.writeF_inbox (s : State) (v : Byte) : (s.writeF v).inbox = s.inbox := rfl
@[simp] theorem State.writeF_byteAt (s : State) (v : Byte) (y : Word) : (s.writeF v).byteAt y = s.byteAt y := by simp [State.byteAt]
@[simp] theorem State.writeF_kindAt (s : State) (v : Byte) (y : Word) : (s.writeF v).kindAt y = s.kindAt y := by simp [State.kindAt]
@[simp] theorem State.writeF_reg (s : State) (v : Byte) (q : R8) : (s.writeF v).reg q = s.reg q := by cases q <;> simp [State.reg]
@[simp] theorem State.writeF_bc (s : State) (v : Byte) : (s.writeF v).bc = s.bc := by simp [State.bc]
@[simp] theorem State.writeF_de (s : State) (v : Byte) : (s.writeF v).de = s.de := by simp [State.de]
@[simp] theorem State.writeF_hl (s : State) (v : Byte) : (s.writeF v).hl = s.hl := by simp [State.hl]

/-! ### `setFlags` -/

@[simp] theorem State.setFlags_A (s : State) (f : Flags) : (s.setFlags f).A = s.A := rfl
@[simp] theorem State.setFlags_F (s : State) (f : Flags) : (s.setFlags f).F = f.toByte &&& 0xF0 := rfl
@[simp] theorem State.setFlags_B (s : State) (f : Flags) : (s.setFlags f).B = s.B := rfl
@[simp] theorem State.setFlags_C (s : State) (f : Flags) : (s.setFlags f).C = s.C := rfl
@[simp] theorem State.setFlags_D (s : State) (f : Flags) : (s.setFlags f).D = s.D := rfl
@[simp] theorem State.setFlags_E (s : State) (f : Flags) : (s.setFlags f).E = s.E := rfl
@[simp] theorem State.setFlags_H (s : State) (f : Flags) : (s.setFlags f).H = s.H := rfl
@[simp] theorem State.setFlags_L (s : State) (f : Flags) : (s.setFlags f).L = s.L := rfl
@[simp] theorem State.setFlags_sp (s : State) (f : Flags) : (s.setFlags f).sp = s.sp := rfl
@[simp] theorem State.setFlags_pc (s : State) (f : Flags) : (s.setFlags f).pc = s.pc := rfl
@[simp] theorem State.setFlags_IME (s : State) (f : Flags) : (s.setFlags f).IME = s.IME := rfl
@[simp] theorem State.setFlags_IE (s : State) (f : Flags) : (s.setFlags f).IE = s.IE := rfl
@[simp] theorem State.setFlags_IF (s : State) (f : Flags) : (s.setFlags f).IF = s.IF := rfl
@[simp] theorem State.setFlags_cycles (s : State) (f : Flags) : (s.setFlags f).cycles = s.cycles := rfl
@[simp] theorem State.setFlags_mem (s : State) (f : Flags) : (s.setFlags f).mem = s.mem := rfl
@[simp] theorem State.setFlags_facade (s : State) (f : Flags) : (s.setFlags f).facade = s.facade := rfl
@[simp] theorem State.setFlags_asked (s : State) (f : Flags) : (s.setFlags f).asked = s.asked := rfl
@[simp] theorem State.setFlags_cfg (s : State) (f : Flags) : (s.setFlags f).cfg = s.cfg := rfl
@[simp] theorem State.setFlags_inbox (s : State) (f : Flags) : (s.setFlags f).inbox = s.inbox := rfl
@[simp] theorem State.setFlags_byteAt (s : State) (f : Flags) (y : Word) : (s.setFlags f).byteAt y = s.byteAt y := by simp [State.byteAt]
@[simp] theorem State.setFlags_kindAt (s : State) (f : Flags) (y : Word) : (s.setFlags f).kindAt y = s.kindAt y := by simp [State.kindAt]
@[simp] theorem State.setFlags_reg (s : State) (f : Flags) (q : R8) : (s.setFlags f).reg q = s.reg q := by cases q <;> simp [State.reg]
@[simp] theorem State.setFlags_bc (s : State) (f : Flags) : (s.setFlags f).bc = s.bc := by simp [State.bc]
@[simp] theorem State.setFlags_de (s : State) (f : Flags) : (s.setFlags f).de = s.de := by simp [State.de]
@[simp] theorem State.setFlags_hl (s : State) (f : Flags) : (s.setFlags f).hl = s.hl := by simp [State.hl]

/-- Masking the low four bits does not touch the packed flags. -/
theorem Flags.toByte_mask (f : Flags) : f.toByte &&& 0xF0 = f.toByte := by
  obtain ⟨z, n, h, c⟩ := f; cases z <;> cases n <;> cases h <;> cases c <;> rfl

/-- The low four bits of packed flags are zero. -/
theorem Flags.toByte_low (f : Flags) : f.toByte &&& 0x0F = 0 := by
  obtain ⟨z, n, h, c⟩ := f; cases z <;> cases n <;> cases h <;> cases c <;> rfl

@[simp] theorem State.setFlags_low (s : State) (f : Flags) : (s.setFlags f).F &&& 0x0F = 0 := by
  rw [State.setFlags_F, Flags.toByte_mask, Flags.toByte_low]

@[simp] theorem State.setFlags_fZ (s : State) (f : Flags) : (s.setFlags f).fZ = f.z := by
  rw [State.fZ, State.setFlags_F, Flags.toByte_mask]
  obtain ⟨z, n, h, c⟩ := f; cases z <;> cases n <;> cases h <;> cases c <;> decide
@[simp] theorem State.setFlags_fN (s : State) (f : Flags) : (s.setFlags f).fN = f.n := by
  rw [State.fN, State.setFlags_F, Flags.toByte_mask]
  obtain ⟨z, n, h, c⟩ := f; cases z <;> cases n <;> cases h <;> cases c <;> decide
@[simp] theorem State.setFlags_fH (s : State) (f : Flags) : (s.setFlags f).fH = f.h := by
  rw [State.fH, State.setFlags_F, Flags.toByte_mask]
  obtain ⟨z, n, h, c⟩ := f; cases z <;> cases n <;> cases h <;> cases c <;> decide
@[simp] theorem State.setFlags_fC (s : State) (f : Flags) : (s.setFlags f).fC = f.c := by
  rw [State.fC, State.setFlags_F, Flags.toByte_mask]
  obtain ⟨z, n, h, c⟩ := f; cases z <;> cases n <;> cases h <;> cases c <;> decide

/-! ### `setBC` -/

@[simp] theorem State.setBC_A (s : State) (v : Word) : (s.setBC v).A = s.A := rfl
@[simp] theorem State.setBC_F (s : State) (v : Word) : (s.setBC v).F = s.F := rfl
@[simp] theorem State.setBC_B (s : State) (v : Word) : (s.setBC v).B = hiByte v := rfl
@[simp] theorem State.setBC_C (s : State) (v : Word) : (s.setBC v).C = loByte v := rfl
@[simp] theorem State.setBC_D (s : State) (v : Word) : (s.setBC v).D = s.D := rfl
@[simp] theorem State.setBC_E (s : State) (v : Word) : (s.setBC v).E = s.E := rfl
@[simp] theorem State.setBC_H (s : State) (v : Word) : (s.setBC v).H = s.H := rfl
@[simp] theorem State.setBC_L (s : State) (v : Word) : (s.setBC v).L = s.L := rfl
@[simp] theorem State.setBC_sp (s : State) (v : Word) : (s.setBC v).sp = s.sp := rfl
@[simp] theorem State.setBC_pc (s : State) (v : Word) : (s.setBC v).pc = s.pc := rfl
@[simp] theorem State.setBC_IME (s : State) (v : Word) : (s.setBC v).IME = s.IME := rfl
@[simp] theorem State.setBC_IE (s : State) (v : Word) : (s.setBC v).IE = s.IE := rfl
@[simp] theorem State.setBC_IF (s : State) (v : Word) : (s.setBC v).IF = s.IF := rfl
@[simp] theorem State.setBC_cycles (s : State) (v : Word) : (s.setBC v).cycles = s.cycles := rfl
@[simp] theorem State.setBC_mem (s : State) (v : Word) : (s.setBC v).mem = s.mem := rfl
@[simp] theorem State.setBC_facade (s : State) (v : Word) : (s.setBC v).facade = s.facade := rfl
@[simp] theorem State.setBC_asked (s : State) (v : Word) : (s.setBC v).asked = s.asked := rfl
@[simp] theorem State.setBC_cfg (s : State) (v : Word) : (s.setBC v).cfg = s.cfg := rfl
@[simp] theorem State.setBC_inbox (s : State) (v : Word) : (s.setBC v).inbox = s.inbox := rfl
@[simp] theorem State.setBC_byteAt (s : State) (v : Word) (y : Word) : (s.setBC v).byteAt y = s.byteAt y := by simp [State.byteAt]
@[simp] theorem State.setBC_kindAt (s : State) (v : Word) (y : Word) : (s.setBC v).kindAt y = s.kindAt y := by simp [State.kindAt]
@[simp] theorem State.setBC_fZ (s : State) (v : Word) : (s.setBC v).fZ = s.fZ := by simp [State.fZ]
@[simp] theorem State.setBC_fN (s : State) (v : Word) : (s.setBC v).fN = s.fN := by simp [State.fN]
@[simp] theorem State.setBC_fH (s : State) (v : Word) : (s.setBC v).fH = s.fH := by simp [State.fH]
@[simp] theorem State.setBC_fC (s : State) (v : Word) : (s.setBC v).fC = s.fC := by simp [State.fC]
@[simp] theorem State.setBC_flags (s : State) (v : Word) : (s.setBC v).flags = s.flags := by simp [State.flags]
@[simp] theorem State.setBC_readF (s : State) (v : Word) : (s.setBC v).readF = s.readF := by simp [State.readF]
@[simp] theorem State.setBC_de (s : State) (v : Word) : (s.setBC v).de = s.de := by simp [State.de]
@[simp] theorem State.setBC_hl (s : State) (v : Word) : (s.setBC v).hl = s.hl := by simp [State.hl]

/-! ### `setDE` -/

@[simp] theorem State.setDE_A (s : State) (v : Word) : (s.setDE v).A = s.A := rfl
@[simp] theorem State.setDE_F (s : State) (v : Word) : (s.setDE v).F = s.F := rfl
@[simp] theorem State.setDE_B (s : State) (v : Word) : (s.setDE v).B = s.B := rfl
@[simp] theorem State.setDE_C (s : State) (v : Word) : (s.setDE v).C = s.C := rfl
@[simp] theorem State.setDE_D (s : State) (v : Word) : (s.setDE v).D = hiByte v := rfl
@[simp] theorem State.setDE_E (s : State) (v : Word) : (s.setDE v).E = loByte v := rfl
@[simp] theorem State.setDE_H (s : State) (v : Word) : (s.setDE v).H = s.H := rfl
@[simp] theorem State.setDE_L (s : State) (v : Word) : (s.setDE v).L = s.L := rfl
@[simp] theorem State.setDE_sp (s : State) (v : Word) : (s.setDE v).sp = s.sp := rfl
@[simp] theorem State.setDE_pc (s : State) (v : Word) : (s.setDE v).pc = s.pc := rfl
@[simp] theorem State.setDE_IME (s : State) (v : Word) : (s.setDE v).IME = s.IME := rfl
@[simp] theorem State.setDE_IE (s : State) (v : Word) : (s.setDE v).IE = s.IE := rfl
@[simp] theorem State.setDE_IF (s : State) (v : Word) : (s.setDE v).IF = s.IF := rfl
@[simp] theorem State.setDE_cycles (s : State) (v : Word) : (s.setDE v).cycles = s.cycles := rfl
@[simp] theorem State.setDE_mem (s : State) (v : Word) : (s.setDE v).mem = s.mem := rfl
@[simp] theorem State.setDE_facade (s : State) (v : Word) : (s.setDE v).facade = s.facade := rfl
@[simp] theorem State.setDE_asked (s : State) (v : Word) : (s.setDE v).asked = s.asked := rfl
@[simp] theorem State.setDE_cfg (s : State) (v : Word) : (s.setDE v).cfg = s.cfg := rfl
@[simp] theorem State.setDE_inbox (s : State) (v : Word) : (s.setDE v).inbox = s.inbox := rfl
@[simp] theorem State.setDE_byteAt (s : State) (v : Word) (y : Word) : (s.setDE v).byteAt y = s.byteAt y := by simp [State.byteAt]
@[simp] theorem State.setDE_kindAt (s : State) (v : Word) (y : Word) : (s.setDE v).kindAt y = s.kindAt y := by simp [State.kindAt]
@[simp] theorem State.setDE_fZ (s : State) (v : Word) : (s.setDE v).fZ = s.fZ := by simp [State.fZ]
@[simp] theorem State.setDE_fN (s : State) (v : Word) : (s.setDE v).fN = s.fN := by simp [State.fN]
@[simp] theorem State.setDE_fH (s : State) (v : Word) : (s.setDE v).fH = s.fH := by simp [State.fH]
@[simp] theorem State.setDE_fC (s : State) (v : Word) : (s.setDE v).fC = s.fC := by simp [State.fC]
@[simp] theorem State.setDE_flags (s : State) (v : Word) : (s.setDE v).flags = s.flags := by simp [State.flags]
@[simp] theorem State.setDE_readF (s : State) (v : Word) : (s.setDE v).readF = s.readF := by simp [State.readF]
@[simp] theorem State.setDE_bc (s : State) (v : Word) : (s.setDE v).bc = s.bc := by simp [State.bc]
@[simp] theorem State.setDE_hl (s : State) (v : Word) : (s.setDE v).hl = s.hl := by simp [State.hl]

/-! ### `setHL` -/

@[simp] theorem State.setHL_A (s : State) (v : Word) : (s.setHL v).A = s.A := rfl
@[simp] theorem State.setHL_F (s : State) (v : Word) : (s.setHL v).F = s.F := rfl
@[simp] theorem State.setHL_B (s : State) (v : Word) : (s.setHL v).B = s.B := rfl
@[simp] theorem State.setHL_C (s : State) (v : Word) : (s.setHL v).C = s.C := rfl
@[simp] theorem State.setHL_D (s : State) (v : Word) : (s.setHL v).D = s.D := rfl
@[simp] theorem State.setHL_E (s : State) (v : Word) : (s.setHL v).E = s.E := rfl
@[simp] theorem State.setHL_H (s : State) (v : Word) : (s.setHL v).H = hiByte v := rfl
@[simp] theorem State.setHL_L (s : State) (v : Word) : (s.setHL v).L = loByte v := rfl
@[simp] theorem State.setHL_sp (s : State) (v : Word) : (s.setHL v).sp = s.sp := rfl
@[simp] theorem State.setHL_pc (s : State) (v : Word) : (s.setHL v).pc = s.pc := rfl
@[simp] theorem State.setHL_IME (s : State) (v : Word) : (s.setHL v).IME = s.IME := rfl
@[simp] theorem State.setHL_IE (s : State) (v : Word) : (s.setHL v).IE = s.IE := rfl
@[simp] theorem State.setHL_IF (s : State) (v : Word) : (s.setHL v).IF = s.IF := rfl
@[simp] theorem State.setHL_cycles (s : State) (v : Word) : (s.setHL v).cycles = s.cycles := rfl
@[simp] theorem State.setHL_mem (s : State) (v : Word) : (s.setHL v).mem = s.mem := rfl
@[simp] theorem State.setHL_facade (s : State) (v : Word) : (s.setHL v).facade = s.facade := rfl
@[simp] theorem State.setHL_asked (s : State) (v : Word) : (s.setHL v).asked = s.asked := rfl
@[simp] theorem State.setHL_cfg (s : State) (v : Word) : (s.setHL v).cfg = s.cfg := rfl
@[simp] theorem State.setHL_inbox (s : State) (v : Word) : (s.setHL v).inbox = s.inbox := rfl
@[simp] theorem State.setHL_byteAt (s : State) (v : Word) (y : Word) : (s.setHL v).byteAt y = s.byteAt y := by simp [State.byteAt]
@[simp] theorem State.setHL_kindAt (s : State) (v : Word) (y : Word) : (s.setHL v).kindAt y = s.kindAt y := by simp [State.kindAt]
@[simp] theorem State.setHL_fZ (s : State) (v : Word) : (s.setHL v).fZ = s.fZ := by simp [State.fZ]
@[simp] theorem State.setHL_fN (s : State) (v : Word) : (s.setHL v).fN = s.fN := by simp [State.fN]
@[simp] theorem State.setHL_fH (s : State) (v : Word) : (s.setHL v).fH = s.fH := by simp [State.fH]
@[simp] theorem State.setHL_fC (s : State) (v : Word) : (s.setHL v).fC = s.fC := by simp [State.fC]
@[simp] theorem State.setHL_flags (s : State) (v : Word) : (s.setHL v).flags = s.flags := by simp [State.flags]
@[simp] theorem State.setHL_readF (s : State) (v : Word) : (s.setHL v).readF = s.readF := by simp [State.readF]
@[simp] theorem State.setHL_bc (s : State) (v : Word) : (s.setHL v).bc = s.bc := by simp [State.bc]
@[simp] theorem State.setHL_de (s : State) (v : Word) : (s.setHL v).de = s.de := by simp [State.de]

/-! ### `setAF` -/

@[simp] theorem State.setAF_A (s : State) (v : Word) : (s.setAF v).A = hiByte v := rfl
@[simp] theorem State.setAF_F (s : State) (v : Word) : (s.setAF v).F = loByte v &&& 0xF0 := rfl
@[simp] theorem State.setAF_B (s : State) (v : Word) : (s.setAF v).B = s.B := rfl
@[simp] theorem State.setAF_C (s : State) (v : Word) : (s.setAF v).C = s.C := rfl
@[simp] theorem State.setAF_D (s : State) (v : Word) : (s.setAF v).D = s.D := rfl
@[simp] theorem State.setAF_E (s : State) (v : Word) : (s.setAF v).E = s.E := rfl
@[simp] theorem State.setAF_H (s : State) (v : Word) : (s.setAF v).H = s.H := rfl
@[simp] theorem State.setAF_L (s : State) (v : Word) : (s.setAF v).L = s.L := rfl
@[simp] theorem State.setAF_sp (s : State) (v : Word) : (s.setAF v).sp = s.sp := rfl
@[simp] theorem State.setAF_pc (s : State) (v : Word) : (s.setAF v).pc = s.pc := rfl
@[simp] theorem State.setAF_IME (s : State) (v : Word) : (s.setAF v).IME = s.IME := rfl
@[simp] theorem State.setAF_IE (s : State) (v : Word) : (s.setAF v).IE = s.IE := rfl
@[simp] theorem State.setAF_IF (s : State) (v : Word) : (s.setAF v).IF = s.IF := rfl
@[simp] theorem State.setAF_cycles (s : State) (v : Word) : (s.setAF v).cycles = s.cycles := rfl
@[simp] theorem State.setAF_mem (s : State) (v : Word) : (s.setAF v).mem = s.mem := rfl
@[simp] theorem State.setAF_facade (s : State) (v : Word) : (s.setAF v).facade = s.facade := rfl
@[simp] theorem State.setAF_asked (s : State) (v : Word) : (s.setAF v).asked = s.asked := rfl
@[simp] theorem State.setAF_cfg (s : State) (v : Word) : (s.setAF v).cfg = s.cfg := rfl
@[simp] theorem State.setAF_inbox (s : State) (v : Word) : (s.setAF v).inbox = s.inbox := rfl
@[simp] theorem State.setAF_byteAt (s : State) (v : Word) (y : Word) : (s.setAF v).byteAt y = s.byteAt y := by simp [State.byteAt]
@[simp] theorem State.setAF_kindAt (s : State) (v : Word) (y : Word) : (s.setAF v).kindAt y = s.kindAt y := by simp [State.kindAt]
@[simp] theorem State.setAF_bc (s : State) (v : Word) : (s.setAF v).bc = s.bc := by simp [State.bc]
@[simp] theorem State.setAF_de (s : State) (v : Word) : (s.setAF v).de = s.de := by simp [State.de]
@[simp] theorem State.setAF_hl (s : State) (v : Word) : (s.setAF v).hl = s.hl := by simp [State.hl]

@[simp] theorem State.setBC_bc (s : State) (v : Word) : (s.setBC v).bc = v := by simp [State.bc]
@[simp] theorem State.setDE_de (s : State) (v : Word) : (s.setDE v).de = v := by simp [State.de]
@[simp] theorem State.setHL_hl (s : State) (v : Word) : (s.setHL v).hl = v := by simp [State.hl]

@[simp] theorem State.setBC_reg (s : State) (v : Word) (q : R8) :
    (s.setBC v).reg q = if q = .B then hiByte v else if q = .C then loByte v else s.reg q := by cases q <;> rfl
@[simp] theorem State.setDE_reg (s : State) (v : Word) (q : R8) :
    (s.setDE v).reg q = if q = .D then hiByte v else if q = .E then loByte v else s.reg q := by cases q <;> rfl
@[simp] theorem State.setHL_reg (s : State) (v : Word) (q : R8) :
    (s.setHL v).reg q = if q = .H then hiByte v else if q = .L then loByte v else s.reg q := by cases q <;> rfl
@[simp] theorem State.setAF_reg (s : State) (v : Word) (q : R8) :
    (s.setAF v).reg q = if q = .A then hiByte v else s.reg q := by cases q <;> rfl
@[simp] theorem State.setFlags_flags (s : State) (f : Flags) : (s.setFlags f).flags = f := by simp [State.flags]

/-! ### `setRp` -/

@[simp] theorem State.setRp_A (s : State) (p : RP) (v : Word) : (s.setRp p v).A = s.A := by cases p <;> rfl
@[simp] theorem State.setRp_F (s : State) (p : RP) (v : Word) : (s.setRp p v).F = s.F := by cases p <;> rfl
@[simp] theorem State.setRp_pc (s : State) (p : RP) (v : Word) : (s.setRp p v).pc = s.pc := by cases p <;> rfl
@[simp] theorem State.setRp_IME (s : State) (p : RP) (v : Word) : (s.setRp p v).IME = s.IME := by cases p <;> rfl
@[simp] theorem State.setRp_IE (s : State) (p : RP) (v : Word) : (s.setRp p v).IE = s.IE := by cases p <;> rfl
@[simp] theorem State.setRp_IF (s : State) (p : RP) (v : Word) : (s.setRp p v).IF = s.IF := by cases p <;> rfl
@[simp] theorem State.setRp_cycles (s : State) (p : RP) (v : Word) : (s.setRp p v).cycles = s.cycles := by cases p <;> rfl
@[simp] theorem State.setRp_mem (s : State) (p : RP) (v : Word) : (s.setRp p v).mem = s.mem := by cases p <;> rfl
@[simp] theorem State.setRp_facade (s : State) (p : RP) (v : Word) : (s.setRp p v).facade = s.facade := by cases p <;> rfl
@[simp] theorem State.setRp_asked (s : State) (p : RP) (v : Word) : (s.setRp p v).asked = s.asked := by cases p <;> rfl
@[simp] theorem State.setRp_cfg (s : State) (p : RP) (v : Word) : (s.setRp p v).cfg = s.cfg := by cases p <;> rfl
@[simp] theorem State.setRp_inbox (s : State) (p : RP) (v : Word) : (s.setRp p v).inbox = s.inbox := by cases p <;> rfl
@[simp] theorem State.setRp_byteAt (s : State) (p : RP) (v : Word) (y : Word) : (s.setRp p v).byteAt y = s.byteAt y := by simp [State.byteAt]
@[simp] theorem State.setRp_kindAt (s : State) (p : RP) (v : Word) (y : Word) : (s.setRp p v).kindAt y = s.kindAt y := by simp [State.kindAt]
@[simp] theorem State.setRp_fZ (s : State) (p : RP) (v : Word) : (s.setRp p v).fZ = s.fZ := by simp [State.fZ]
@[simp] theorem State.setRp_fN (s : State) (p : RP) (v : Word) : (s.setRp p v).fN = s.fN := by simp [State.fN]
@[simp] theorem State.setRp_fH (s : State) (p : RP) (v : Word) : (s.setRp p v).fH = s.fH := by simp [State.fH]
@[simp] theorem State.setRp_fC (s : State) (p : RP) (v : Word) : (s.setRp p v).fC = s.fC := by simp [State.fC]
@[simp] theorem State.setRp_flags (s : State) (p : RP) (v : Word) : (s.setRp p v).flags = s.flags := by simp [State.flags]
@[simp] theorem State.setRp_readF (s : State) (p : RP) (v : Word) : (s.setRp p v).readF = s.readF := by simp [State.readF]

/-! ### `setRq` -/

@[simp] theorem State.setRq_sp (s : State) (p : RQ) (v : Word) : (s.setRq p v).sp = s.sp := by cases p <;> rfl
@[simp] theorem State.setRq_pc (s : State) (p : RQ) (v : Word) : (s.setRq p v).pc = s.pc := by cases p <;> rfl
@[simp] theorem State.setRq_IME (s : State) (p : RQ) (v : Word) : (s.setRq p v).IME = s.IME := by cases p <;> rfl
@[simp] theorem State.setRq_IE (s : State) (p : RQ) (v : Word) : (s.setRq p v).IE = s.IE := by cases p <;> rfl
@[simp] theorem State.setRq_IF (s : State) (p : RQ) (v : Word) : (s.setRq p v).IF = s.IF := by cases p <;> rfl
@[simp] theorem State.setRq_cycles (s : State) (p : RQ) (v : Word) : (s.setRq p v).cycles = s.cycles := by cases p <;> rfl
@[simp] theorem State.setRq_mem (s : State) (p : RQ) (v : Word) : (s.setRq p v).mem = s.mem := by cases p <;> rfl
@[simp] theorem State.setRq_facade (s : State) (p : RQ) (v : Word) : (s.setRq p v).facade = s.facade := by cases p <;> rfl
@[simp] theorem State.setRq_asked (s : State) (p : RQ) (v : Word) : (s.setRq p v).asked = s.asked := by cases p <;> rfl
@[simp] theorem State.setRq_cfg (s : State) (p : RQ) (v : Word) : (s.setRq p v).cfg = s.cfg := by cases p <;> rfl
@[simp] theorem State.setRq_inbox (s : State) (p : RQ) (v : Word) : (s.setRq p v).inbox = s.inbox := by cases p <;> rfl
@[simp] theorem State.setRq_byteAt (s : State) (p : RQ) (v : Word) (y : Word) : (s.setRq p v).byteAt y = s.byteAt y := by simp [State.byteAt]
@[simp] theorem State.setRq_kindAt (s : State) (p : RQ) (v : Word) (y : Word) : (s.setRq p v).kindAt y = s.kindAt y := by simp [State.kindAt]

@[simp] theorem State.setRp_rp (s : State) (p : RP) (v : Word) : (s.setRp p v).rp p = v := by
  cases p <;> simp [State.rp, State.setRp, State.bc, State.de]
@[simp] theorem State.internal_rp (s : State) (n : Nat) (p : RP) : (s.internal n).rp p = s.rp p := by cases p <;> rfl

/-! ### `internal` -/

@[simp] theorem State.internal_A (s : State) (n : Nat) : (s.internal n).A = s.A := rfl
@[simp] theorem State.internal_F (s : State) (n : Nat) : (s.internal n).F = s.F := rfl
@[simp] theorem State.internal_B (s : State) (n : Nat) : (s.internal n).B = s.B := rfl
@[simp] theorem State.internal_C (s : State) (n : Nat) : (s.internal n).C = s.C := rfl
@[simp] theorem State.internal_D (s : State) (n : Nat) : (s.internal n).D = s.D := rfl
@[simp] theorem State.internal_E (s : State) (n : Nat) : (s.internal n).E = s.E := rfl
@[simp] theorem State.internal_H (s : State) (n : Nat) : (s.internal n).H = s.H := rfl
@[simp] theorem State.internal_L (s : State) (n : Nat) : (s.internal n).L = s.L := rfl
@[simp] theorem State.internal_sp (s : State) (n : Nat) : (s.internal n).sp = s.sp := rfl
@[simp] theorem State.internal_pc (s : State) (n : Nat) : (s.internal n).pc = s.pc := rfl
@[simp] theorem State.internal_IME (s : State) (n : Nat) : (s.internal n).IME = s.IME := rfl
@[simp] theorem State.internal_IE (s : State) (n : Nat) : (s.internal n).IE = s.IE := rfl
@[simp] theorem State.internal_IF (s : State) (n : Nat) : (s.internal n).IF = s.IF := rfl
@[simp] theorem State.internal_cycles (s : State) (n : Nat) : (s.internal n).cycles = s.cycles + BitVec.ofNat 8 n := rfl
@[simp] theorem State.internal_mem (s : State) (n : Nat) : (s.internal n).mem = s.mem := rfl
@[simp] theorem State.internal_facade (s : State) (n : Nat) : (s.internal n).facade = s.facade := rfl
@[simp] theorem State.internal_asked (s : State) (n : Nat) : (s.internal n).asked = s.asked := rfl
@[simp] theorem State.internal_cfg (s : State) (n : Nat) : (s.internal n).cfg = s.cfg := rfl
@[simp] theorem State.internal_inbox (s : State) (n : Nat) : (s.internal n).inbox = s.inbox := rfl
@[simp] theorem State.internal_byteAt (s : State) (n : Nat) (y : Word) : (s.internal n).byteAt y = s.byteAt y := by simp [State.byteAt]
@[simp] theorem State.internal_kindAt (s : State) (n : Nat) (y : Word) : (s.internal n).kindAt y = s.kindAt y := by simp [State.kindAt]
@[simp] theorem State.internal_reg (s : State) (n : Nat) (q : R8) : (s.internal n).reg q = s.reg q := by cases q <;> simp [State.reg]
@[simp] theorem State.internal_fZ (s : State) (n : Nat) : (s.internal n).fZ = s.fZ := by simp [State.fZ]
@[simp] theorem State.internal_fN (s : State) (n : Nat) : (s.internal n).fN = s.fN := by simp [State.fN]
@[simp] theorem State.internal_fH (s : State) (n : Nat) : (s.internal n).fH = s.fH := by simp [State.fH]
@[simp] theorem State.internal_fC (s : State) (n : Nat) : (s.internal n).fC = s.fC := by simp [State.fC]
@[simp] theorem State.internal_flags (s : State) (n : Nat) : (s.internal n).flags = s.flags := by simp [State.flags]
@[simp] theorem State.internal_readF (s : State) (n : Nat) : (s.internal n).readF = s.readF := by simp [State.readF]
@[simp] theorem State.internal_bc (s : State) (n : Nat) : (s.internal n).bc = s.bc := by simp [State.bc]
@[simp] theorem State.internal_de (s : State) (n : Nat) : (s.internal n).de = s.de := by simp [State.de]
@[simp] theorem State.internal_hl (s : State) (n : Nat) : (s.internal n).hl = s.hl := by simp [State.hl]

/-! ### `beginTick` -/

@[simp] theorem State.beginTick_A (s : State) : (s.beginTick).A = s.A := rfl
@[simp] theorem State.beginTick_F (s : State) : (s.beginTick).F = s.F := rfl
@[simp] theorem State.beginTick_B (s : State) : (s.beginTick).B = s.B := rfl
@[simp] theorem State.beginTick_C (s : State) : (s.beginTick).C = s.C := rfl
@[simp] theorem State.beginTick_D (s : State) : (s.beginTick).D = s.D := rfl
@[simp] theorem State.beginTick_E (s : State) : (s.beginTick).E = s.E := rfl
@[simp] theorem State.beginTick_H (s : State) : (s.beginTick).H = s.H := rfl
@[simp] theorem State.beginTick_L (s : State) : (s.beginTick).L = s.L := rfl
@[simp] theorem State.beginTick_sp (s : State) : (s.beginTick).sp = s.sp := rfl
@[simp] theorem State.beginTick_pc (s : State) : (s.beginTick).pc = s.pc := rfl
@[simp] theorem State.beginTick_IME (s : State) : (s.beginTick).IME = s.IME := rfl
@[simp] theorem State.beginTick_IE (s : State) : (s.beginTick).IE = s.IE := rfl
@[simp] theorem State.beginTick_IF (s : State) : (s.beginTick).IF = s.IF := rfl
@[simp] theorem State.beginTick_cycles (s : State) : (s.beginTick).cycles = 0 := rfl
@[simp] theorem State.beginTick_mem (s : State) : (s.beginTick).mem = s.mem := rfl
@[simp] theorem State.beginTick_facade (s : State) : (s.beginTick).facade = s.facade := rfl
@[simp] theorem State.beginTick_asked (s : State) : (s.beginTick).asked = s.asked := rfl
@[simp] theorem State.beginTick_cfg (s : State) : (s.beginTick).cfg = s.cfg := rfl
@[simp] theorem State.beginTick_inbox (s : State) : (s.beginTick).inbox = s.inbox := rfl
@[simp] theorem State.beginTick_byteAt (s : State) (y : Word) : (s.beginTick).byteAt y = s.byteAt y := by simp [State.byteAt]
@[simp] theorem State.beginTick_kindAt (s : State) (y : Word) : (s.beginTick).kindAt y = s.kindAt y := by simp [State.kindAt]
@[simp] theorem State.beginTick_reg (s : State) (q : R8) : (s.beginTick).reg q = s.reg q := by cases q <;> simp [State.reg]
@[simp] theorem State.beginTick_fZ (s : State) : (s.beginTick).fZ = s.fZ := by simp [State.fZ]
@[simp] theorem State.beginTick_fN (s : State) : (s.beginTick).fN = s.fN := by simp [State.fN]
@[simp] theorem State.beginTick_fH (s : State) : (s.beginTick).fH = s.fH := by simp [State.fH]
@[simp] theorem State.beginTick_fC (s : State) : (s.beginTick).fC = s.fC := by simp [State.fC]
@[simp] theorem State.beginTick_flags (s : State) : (s.beginTick).flags = s.flags := by simp [State.flags]
@[simp] theorem State.beginTick_readF (s : State) : (s.beginTick).readF = s.readF := by simp [State.readF]
@[simp] theorem State.beginTick_bc (s : State) : (s.beginTick).bc = s.bc := by simp [State.bc]
@[simp] theorem State.beginTick_de (s : State) : (s.beginTick).de = s.de := by simp [State.de]
@[simp] theorem State.beginTick_hl (s : State) : (s.beginTick).hl = s.hl := by simp [State.hl]

/-! ### `afterDevice` -/

@[simp] theorem State.afterDevice_A (s : State) (x : Access) : (s.afterDevice x).A = s.A := rfl
@[simp] theorem State.afterDevice_F (s : State) (x : Access) : (s.afterDevice x).F = s.F := rfl
@[simp] theorem State.afterDevice_B (s : State) (x : Access) : (s.afterDevice x).B = s.B := rfl
@[simp] theorem State.afterDevice_C (s : State) (x : Access) : (s.afterDevice x).C = s.C := rfl
@[simp] theorem State.afterDevice_D (s : State) (x : Access) : (s.afterDevice x).D = s.D := rfl
@[simp] theorem State.afterDevice_E (s : State) (x : Access) : (s.afterDevice x).E = s.E := rfl
@[simp] theorem State.afterDevice_H (s : State) (x : Access) : (s.afterDevice x).H = s.H := rfl
@[simp] theorem State.afterDevice_L (s : State) (x : Access) : (s.afterDevice x).L = s.L := rfl
@[simp] theorem State.afterDevice_sp (s : State) (x : Access) : (s.afterDevice x).sp = s.sp := rfl
@[simp] theorem State.afterDevice_pc (s : State) (x : Access) : (s.afterDevice x).pc = s.pc := rfl
@[simp] theorem State.afterDevice_IME (s : State) (x : Access) : (s.afterDevice x).IME = s.IME := rfl
@[simp] theorem State.afterDevice_IE (s : State) (x : Access) : (s.afterDevice x).IE = Config.deviceIE (s.deviceCall x) := rfl
@[simp] theorem State.afterDevice_IF (s : State) (x : Access) : (s.afterDevice x).IF = Config.deviceIF (s.deviceCall x) := rfl
@[simp] theorem State.afterDevice_cycles (s : State) (x : Access) : (s.afterDevice x).cycles = s.cycles := rfl
@[simp] theorem State.afterDevice_mem (s : State) (x : Access) : (s.afterDevice x).mem = s.mem := rfl
@[simp] theorem State.afterDevice_facade (s : State) (x : Access) : (s.afterDevice x).facade = Config.deviceState (s.deviceCall x) := rfl
@[simp] theorem State.afterDevice_asked (s : State) (x : Access) : (s.afterDevice x).asked = s.asked + 1 := rfl
@[simp] theorem State.afterDevice_cfg (s : State) (x : Access) : (s.afterDevice x).cfg = s.cfg := rfl
@[simp] theorem State.afterDevice_inbox (s : State) (x : Access) : (s.afterDevice x).inbox = s.inbox := rfl
@[simp] theorem State.afterDevice_byteAt (s : State) (x : Access) (y : Word) : (s.afterDevice x).byteAt y = s.byteAt y := by simp [State.byteAt]
@[simp] theorem State.afterDevice_kindAt (s : State) (x : Access) (y : Word) : (s.afterDevice x).kindAt y = s.kindAt y := by simp [State.kindAt]
@[simp] theorem State.afterDevice_reg (s : State) (x : Access) (q : R8) : (s.afterDevice x).reg q = s.reg q := by cases q <;> simp [State.reg]
@[simp] theorem State.afterDevice_fZ (s : State) (x : Access) : (s.afterDevice x).fZ = s.fZ := by simp [State.fZ]
@[simp] theorem State.afterDevice_fN (s : State) (x : Access) : (s.afterDevice x).fN = s.fN := by simp [State.fN]
@[simp] theorem State.afterDevice_fH (s : State) (x : Access) : (s.afterDevice x).fH = s.fH := by simp [State.fH]
@[simp] theorem State.afterDevice_fC (s : State) (x : Access) : (s.afterDevice x).fC = s.fC := by simp [State.fC]
@[simp] theorem State.afterDevice_flags (s : State) (x : Access) : (s.afterDevice x).flags = s.flags := by simp [State.flags]
@[simp] theorem State.afterDevice_readF (s : State) (x : Access) : (s.afterDevice x).readF = s.readF := by simp [State.readF]
@[simp] theorem State.afterDevice_bc (s : State) (x : Access) : (s.afterDevice x).bc = s.bc := by simp [State.bc]
@[simp] theorem State.afterDevice_de (s : State) (x : Access) : (s.afterDevice x).de = s.de := by simp [State.de]
@[simp] theorem State.afterDevice_hl (s : State) (x : Access) : (s.afterDevice x).hl = s.hl := by simp [State.hl]

@[simp] theorem State.internal_deviceCall (s : State) (n : Nat) (x : Access) : (s.internal n).deviceCall x = s.deviceCall x := rfl

/-! ### `memRead` -/

@[simp] theorem State.memRead_A (s : State) (a : Word) : ((s.memRead a).2).A = s.A := by unfold State.memRead; split <;> simp
@[simp] theorem State.memRead_F (s : State) (a : Word) : ((s.memRead a).2).F = s.F := by unfold State.memRead; split <;> simp
@[simp] theorem State.memRead_B (s : State) (a : Word) : ((s.memRead a).2).B = s.B := by unfold State.memRead; split <;> simp
@[simp] theorem State.memRead_C (s : State) (a : Word) : ((s.memRead a).2).C = s.C := by unfold State.memRead; split <;> simp
@[simp] theorem State.memRead_D (s : State) (a : Word) : ((s.memRead a).2).D = s.D := by unfold State.memRead; split <;> simp
@[simp] theorem State.memRead_E (s : State) (a : Word) : ((s.memRead a).2).E = s.E := by unfold State.memRead; split <;> simp
@[simp] theorem State.memRead_H (s : State) (a : Word) : ((s.memRead a).2).H = s.H := by unfold State.memRead; split <;> simp
@[simp] theorem State.memRead_L (s : State) (a : Word) : ((s.memRead a).2).L = s.L := by unfold State.memRead; split <;> simp
@[simp] theorem State.memRead_sp (s : State) (a : Word) : ((s.memRead a).2).sp = s.sp := by unfold State.memRead; split <;> simp
@[simp] theorem State.memRead_pc (s : State) (a : Word) : ((s.memRead a).2).pc = s.pc := by unfold State.memRead; split <;> simp
@[simp] theorem State.memRead_IME (s : State) (a : Word) : ((s.memRead a).2).IME = s.IME := by unfold State.memRead; split <;> simp
@[simp] theorem State.memRead_cycles (s : State) (a : Word) : ((s.memRead a).2).cycles = s.cycles + 1 := by unfold State.memRead; split <;> simp
@[simp] theorem State.memRead_mem (s : State) (a : Word) : ((s.memRead a).2).mem = s.mem := by unfold State.memRead; split <;> simp
@[simp] theorem State.memRead_cfg (s : State) (a : Word) : ((s.memRead a).2).cfg = s.cfg := by unfold State.memRead; split <;> simp
@[simp] theorem State.memRead_inbox (s : State) (a : Word) : ((s.memRead a).2).inbox = s.inbox := by unfold State.memRead; split <;> simp
@[simp] theorem State.memRead_byteAt (s : State) (a : Word) (y : Word) : ((s.memRead a).2).byteAt y = s.byteAt y := by simp [State.byteAt]
@[simp] theorem State.memRead_kindAt (s : State) (a : Word) (y : Word) : ((s.memRead a).2).kindAt y = s.kindAt y := by simp [State.kindAt]
@[simp] theorem State.memRead_reg (s : State) (a : Word) (q : R8) : ((s.memRead a).2).reg q = s.reg q := by cases q <;> simp [State.reg]
@[simp] theorem State.memRead_fZ (s : State) (a : Word) : ((s.memRead a).2).fZ = s.fZ := by simp [State.fZ]
@[simp] theorem State.memRead_fN (s : State) (a : Word) : ((s.memRead a).2).fN = s.fN := by simp [State.fN]
@[simp] theorem State.memRead_fH (s : State) (a : Word) : ((s.memRead a).2).fH = s.fH := by simp [State.fH]
@[simp] theorem State.memRead_fC (s : State) (a : Word) : ((s.memRead a).2).fC = s.fC := by simp [State.fC]
@[simp] theorem State.memRead_flags (s : State) (a : Word) : ((s.memRead a).2).flags = s.flags := by simp [State.flags]
@[simp] theorem State.memRead_readF (s : State) (a : Word) : ((s.memRead a).2).readF = s.readF := by simp [State.readF]
@[simp] theorem State.memRead_bc (s : State) (a : Word) : ((s.memRead a).2).bc = s.bc := by simp [State.bc]
@[simp] theorem State.memRead_de (s : State) (a : Word) : ((s.memRead a).2).de = s.de := by simp [State.de]
@[simp] theorem State.memRead_hl (s : State) (a : Word) : ((s.memRead a).2).hl = s.hl := by simp [State.hl]

/-! ### `memWrite` -/

@[simp] theorem State.memWrite_A (s : State) (a : Word) (v : Byte) : (s.memWrite a v).A = s.A := by unfold State.memWrite; split <;> simp
@[simp] theorem State.memWrite_F (s : State) (a : Word) (v : Byte) : (s.memWrite a v).F = s.F := by unfold State.memWrite; split <;> simp
@[simp] theorem State.memWrite_B (s : State) (a : Word) (v : Byte) : (s.memWrite a v).B = s.B := by unfold State.memWrite; split <;> simp
@[simp] theorem State.memWrite_C (s : State) (a : Word) (v : Byte) : (s.memWrite a v).C = s.C := by unfold State.memWrite; split <;> simp
@[simp] theorem State.memWrite_D (s : State) (a : Word) (v : Byte) : (s.memWrite a v).D = s.D := by unfold State.memWrite; split <;> simp
@[simp] theorem State.memWrite_E (s : State) (a : Word) (v : Byte) : (s.memWrite a v).E = s.E := by unfold State.memWrite; split <;> simp
@[simp] theorem State.memWrite_H (s : State) (a : Word) (v : Byte) : (s.memWrite a v).H = s.H := by unfold State.memWrite; split <;> simp
@[simp] theorem State.memWrite_L (s : State) (a : Word) (v : Byte) : (s.memWrite a v).L = s.L := by unfold State.memWrite; split <;> simp
@[simp] theorem State.memWrite_sp (s : State) (a : Word) (v : Byte) : (s.memWrite a v).sp = s.sp := by unfold State.memWrite; split <;> simp
@[simp] theorem State.memWrite_pc (s : State) (a : Word) (v : Byte) : (s.memWrite a v).pc = s.pc := by unfold State.memWrite; split <;> simp
@[simp] theorem State.memWrite_IME (s : State) (a : Word) (v : Byte) : (s.memWrite a v).IME = s.IME := by unfold State.memWrite; split <;> simp
@[simp] theorem State.memWrite_cycles (s : State) (a : Word) (v : Byte) : (s.memWrite a v).cycles = s.cycles + 1 := by unfold State.memWrite; split <;> simp
@[simp] theorem State.memWrite_cfg (s : State) (a : Word) (v : Byte) : (s.memWrite a v).cfg = s.cfg := by unfold State.memWrite; split <;> simp
@[simp] theorem State.memWrite_inbox (s : State) (a : Word) (v : Byte) : (s.memWrite a v).inbox = s.inbox := by unfold State.memWrite; split <;> simp
@[simp] theorem State.memWrite_kindAt (s : State) (a : Word) (v : Byte) (y : Word) : (s.memWrite a v).kindAt y = s.kindAt y := by simp [State.kindAt]
@[simp] theorem State.memWrite_reg (s : State) (a : Word) (v : Byte) (q : R8) : (s.memWrite a v).reg q = s.reg q := by cases q <;> simp [State.reg]
@[simp] theorem State.memWrite_fZ (s : State) (a : Word) (v : Byte) : (s.memWrite a v).fZ = s.fZ := by simp [State.fZ]
@[simp] theorem State.memWrite_fN (s : State) (a : Word) (v : Byte) : (s.memWrite a v).fN = s.fN := by simp [State.fN]
@[simp] theorem State.memWrite_fH (s : State) (a : Word) (v : Byte) : (s.memWrite a v).fH = s.fH := by simp [State.fH]
@[simp] theorem State.memWrite_fC (s : State) (a : Word) (v : Byte) : (s.memWrite a v).fC = s.fC := by simp [State.fC]
@[simp] theorem State.memWrite_flags (s : State) (a : Word) (v : Byte) : (s.memWrite a v).flags = s.flags := by simp [State.flags]
@[simp] theorem State.memWrite_readF (s : State) (a : Word) (v : Byte) : (s.memWrite a v).readF = s.readF := by simp [State.readF]
@[simp] theorem State.memWrite_bc (s : State) (a : Word) (v : Byte) : (s.memWrite a v).bc = s.bc := by simp [State.bc]
@[simp] theorem State.memWrite_de (s : State) (a : Word) (v : Byte) : (s.memWrite a v).de = s.de := by simp [State.de]
@[simp] theorem State.memWrite_hl (s : State) (a : Word) (v : Byte) : (s.memWrite a v).hl = s.hl := by simp [State.hl]

/-! ### `fetch8` -/

@[simp] theorem State.fetch8_A (s : State) : ((s.fetch8).2).A = s.A := by simp [State.fetch8]
@[simp] theorem State.fetch8_F (s : State) : ((s.fetch8).2).F = s.F := by simp [State.fetch8]
@[simp] theorem State.fetch8_B (s : State) : ((s.fetch8).2).B = s.B := by simp [State.fetch8]
@[simp] theorem State.fetch8_C (s : State) : ((s.fetch8).2).C = s.C := by simp [State.fetch8]
@[simp] theorem State.fetch8_D (s : State) : ((s.fetch8).2).D = s.D := by simp [State.fetch8]
@[simp] theorem State.fetch8_E (s : State) : ((s.fetch8).2).E = s.E := by simp [State.fetch8]
@[simp] theorem State.fetch8_H (s : State) : ((s.fetch8).2).H = s.H := by simp [State.fetch8]
@[simp] theorem State.fetch8_L (s : State) : ((s.fetch8).2).L = s.L := by simp [State.fetch8]
@[simp] theorem State.fetch8_sp (s : State) : ((s.fetch8).2).sp = s.sp := by simp [State.fetch8]
@[simp] theorem State.fetch8_pc (s : State) : ((s.fetch8).2).pc = s.pc + 1 := by simp [State.fetch8]
@[simp] theorem State.fetch8_IME (s : State) : ((s.fetch8).2).IME = s.IME := by simp [State.fetch8]
@[simp] theorem State.fetch8_cycles (s : State) : ((s.fetch8).2).cycles = s.cycles + 1 := by simp [State.fetch8]
@[simp] theorem State.fetch8_mem (s : State) : ((s.fetch8).2).mem = s.mem := by simp [State.fetch8]
@[simp] theorem State.fetch8_cfg (s : State) : ((s.fetch8).2).cfg = s.cfg := by simp [State.fetch8]
@[simp] theorem State.fetch8_inbox (s : State) : ((s.fetch8).2).inbox = s.inbox := by simp [State.fetch8]
@[simp] theorem State.fetch8_byteAt (s : State) (y : Word) : ((s.fetch8).2).byteAt y = s.byteAt y := by simp [State.byteAt]
@[simp] theorem State.fetch8_kindAt (s : State) (y : Word) : ((s.fetch8).2).kindAt y = s.kindAt y := by simp [State.kindAt]
@[simp] theorem State.fetch8_reg (s : State) (q : R8) : ((s.fetch8).2).reg q = s.reg q := by cases q <;> simp [State.reg]
@[simp] theorem State.fetch8_fZ (s : State) : ((s.fetch8).2).fZ = s.fZ := by simp [State.fZ]
@[simp] theorem State.fetch8_fN (s : State) : ((s.fetch8).2).fN = s.fN := by simp [State.fN]
@[simp] theorem State.fetch8_fH (s : State) : ((s.fetch8).2).fH = s.fH := by simp [State.fH]
@[simp] theorem State.fetch8_fC (s : State) : ((s.fetch8).2).fC = s.fC := by simp [State.fC]
@[simp] theorem State.fetch8_flags (s : State) : ((s.fetch8).2).flags = s.flags := by simp [State.flags]
@[simp] theorem State.fetch8_readF (s : State) : ((s.fetch8).2).readF = s.readF := by simp [State.readF]
@[simp] theorem State.fetch8_bc (s : State) : ((s.fetch8).2).bc = s.bc := by simp [State.bc]
@[simp] theorem State.fetch8_de (s : State) : ((s.fetch8).2).de = s.de := by simp [State.de]
@[simp] theorem State.fetch8_hl (s : State) : ((s.fetch8).2).hl = s.hl := by simp [State.hl]

/-! ### `pushBytes` -/

@[simp] theorem State.pushBytes_A (s : State) (v : Word) : (s.pushBytes v).A = s.A := by simp [State.pushBytes]
@[simp] theorem State.pushBytes_F (s : State) (v : Word) : (s.pushBytes v).F = s.F := by simp [State.pushBytes]
@[simp] theorem State.pushBytes_B (s : State) (v : Word) : (s.pushBytes v).B = s.B := by simp [State.pushBytes]
@[simp] theorem State.pushBytes_C (s : State) (v : Word) : (s.pushBytes v).C = s.C := by simp [State.pushBytes]
@[simp] theorem State.pushBytes_D (s : State) (v : Word) : (s.pushBytes v).D = s.D := by simp [State.pushBytes]
@[simp] theorem State.pushBytes_E (s : State) (v : Word) : (s.pushBytes v).E = s.E := by simp [State.pushBytes]
@[simp] theorem State.pushBytes_H (s : State) (v : Word) : (s.pushBytes v).H = s.H := by simp [State.pushBytes]
@[simp] theorem State.pushBytes_L (s : State) (v : Word) : (s.pushBytes v).L = s.L := by simp [State.pushBytes]
@[simp] theorem State.pushBytes_sp (s : State) (v : Word) : (s.pushBytes v).sp = s.sp - 2 := by
  simp only [State.pushBytes, State.memWrite_sp]; bv_omega
@[simp] theorem State.pushBytes_pc (s : State) (v : Word) : (s.pushBytes v).pc = s.pc := by simp [State.pushBytes]
@[simp] theorem State.pushBytes_IME (s : State) (v : Word) : (s.pushBytes v).IME = s.IME := by simp [State.pushBytes]
@[simp] theorem State.pushBytes_cycles (s : State) (v : Word) : (s.pushBytes v).cycles = s.cycles + 2 := by
  simp [State.pushBytes, BitVec.add_assoc]
@[simp] theorem State.pushBytes_cfg (s : State) (v : Word) : (s.pushBytes v).cfg = s.cfg := by simp [State.pushBytes]
@[simp] theorem State.pushBytes_inbox (s : State) (v : Word) : (s.pushBytes v).inbox = s.inbox := by simp [State.pushBytes]
@[simp] theorem State.pushBytes_kindAt (s : State) (v : Word) (y : Word) : (s.pushBytes v).kindAt y = s.kindAt y := by simp [State.kindAt]
@[simp] theorem State.pushBytes_reg (s : State) (v : Word) (q : R8) : (s.pushBytes v).reg q = s.reg q := by cases q <;> simp [State.reg]
@[simp] theorem State.pushBytes_fZ (s : State) (v : Word) : (s.pushBytes v).fZ = s.fZ := by simp [State.fZ]
@[simp] theorem State.pushBytes_fN (s : State) (v : Word) : (s.pushBytes v).fN = s.fN := by simp [State.fN]
@[simp] theorem State.pushBytes_fH (s : State) (v : Word) : (s.pushBytes v).fH = s.fH := by simp [State.fH]
@[simp] theorem State.pushBytes_fC (s : State) (v : Word) : (s.pushBytes v).fC = s.fC := by simp [State.fC]
@[simp] theorem State.pushBytes_flags (s : State) (v : Word) : (s.pushBytes v).flags = s.flags := by simp [State.flags]
@[simp] theorem State.pushBytes_readF (s : State) (v : Word) : (s.pushBytes v).readF = s.readF := by simp [State.readF]
@[simp] theorem State.pushBytes_bc (s : State) (v : Word) : (s.pushBytes v).bc = s.bc := by simp [State.bc]
@[simp] theorem State.pushBytes_de (s : State) (v : Word) : (s.pushBytes v).de = s.de := by simp [State.de]
@[simp] theorem State.pushBytes_hl (s : State) (v : Word) : (s.pushBytes v).hl = s.hl := by simp [State.hl]

/-! ### `pushWord` -/

@[simp] theorem State.pushWord_A (s : State) (v : Word) : (s.pushWord v).A = s.A := by simp [State.pushWord]
@[simp] theorem State.pushWord_F (s : State) (v : Word) : (s.pushWord v).F = s.F := by simp [State.pushWord]
@[simp] theorem State.pushWord_B (s : State) (v : Word) : (s.pushWord v).B = s.B := by simp [State.pushWord]
@[simp] theorem State.pushWord_C (s : State) (v : Word) : (s.pushWord v).C = s.C := by simp [State.pushWord]
@[simp] theorem State.pushWord_D (s : State) (v : Word) : (s.pushWord v).D = s.D := by simp [State.pushWord]
@[simp] theorem State.pushWord_E (s : State) (v : Word) : (s.pushWord v).E = s.E := by simp [State.pushWord]
@[simp] theorem State.pushWord_H (s : State) (v : Word) : (s.pushWord v).H = s.H := by simp [State.pushWord]
@[simp] theorem State.pushWord_L (s : State) (v : Word) : (s.pushWord v).L = s.L := by simp [State.pushWord]
@[simp] theorem State.pushWord_sp (s : State) (v : Word) : (s.pushWord v).sp = s.sp - 2 := by simp [State.pushWord]
@[simp] theorem State.pushWord_pc (s : State) (v : Word) : (s.pushWord v).pc = s.pc := by simp [State.pushWord]
@[simp] theorem State.pushWord_IME (s : State) (v : Word) : (s.pushWord v).IME = s.IME := by simp [State.pushWord]
@[simp] theorem State.pushWord_cycles (s : State) (v : Word) : (s.pushWord v).cycles = s.cycles + 3 := by
  simp only [State.pushWord, State.pushBytes_cycles, State.internal_cycles]; bv_omega
@[simp] theorem State.pushWord_cfg (s : State) (v : Word) : (s.pushWord v).cfg = s.cfg := by simp [State.pushWord]
@[simp] theorem State.pushWord_inbox (s : State) (v : Word) : (s.pushWord v).inbox = s.inbox := by simp [State.pushWord]
@[simp] theorem State.pushWord_kindAt (s : State) (v : Word) (y : Word) : (s.pushWord v).kindAt y = s.kindAt y := by simp [State.kindAt]
@[simp] theorem State.pushWord_reg (s : State) (v : Word) (q : R8) : (s.pushWord v).reg q = s.reg q := by cases q <;> simp [State.reg]
@[simp] theorem State.pushWord_fZ (s : State) (v : Word) : (s.pushWord v).fZ = s.fZ := by simp [State.fZ]
@[simp] theorem State.pushWord_fN (s : State) (v : Word) : (s.pushWord v).fN = s.fN := by simp [State.fN]
@[simp] theorem State.pushWord_fH (s : State) (v : Word) : (s.pushWord v).fH = s.fH := by simp [State.fH]
@[simp] theorem State.pushWord_fC (s : State) (v : Word) : (s.pushWord v).fC = s.fC := by simp [State.fC]
@[simp] theorem State.pushWord_flags (s : State) (v : Word) : (s.pushWord v).flags = s.flags := by simp [State.flags]
@[simp] theorem State.pushWord_readF (s : State) (v : Word) : (s.pushWord v).readF = s.readF := by simp [State.readF]
@[simp] theorem State.pushWord_bc (s : State) (v : Word) : (s.pushWord v).bc = s.bc := by simp [State.bc]
@[simp] theorem State.pushWord_de (s : State) (v : Word) : (s.pushWord v).de = s.de := by simp [State.de]
@[simp] theorem State.pushWord_hl (s : State) (v : Word) : (s.pushWord v).hl = s.hl := by simp [State.hl]

/-! ### `popWord` -/

@[simp] theorem State.popWord_A (s : State) : ((s.popWord).2).A = s.A := by simp [State.popWord]
@[simp] theorem State.popWord_F (s : State) : ((s.popWord).2).F = s.F := by simp [State.popWord]
@[simp] theorem State.popWord_B (s : State) : ((s.popWord).2).B = s.B := by simp [State.popWord]
@[simp] theorem State.popWord_C (s : State) : ((s.popWord).2).C = s.C := by simp [State.popWord]
@[simp] theorem State.popWord_D (s : State) : ((s.popWord).2).D = s.D := by simp [State.popWord]
@[simp] theorem State.popWord_E (s : State) : ((s.popWord).2).E = s.E := by simp [State.popWord]
@[simp] theorem State.popWord_H (s : State) : ((s.popWord).2).H = s.H := by simp [State.popWord]
@[simp] theorem State.popWord_L (s : State) : ((s.popWord).2).L = s.L := by simp [State.popWord]
@[simp] theorem State.popWord_sp (s : State) : ((s.popWord).2).sp = s.sp + 2 := by
  simp only [State.popWord, State.memRead_sp]; bv_omega
@[simp] theorem State.popWord_pc (s : State) : ((s.popWord).2).pc = s.pc := by simp [State.popWord]
@[simp] theorem State.popWord_IME (s : State) : ((s.popWord).2).IME = s.IME := by simp [State.popWord]
@[simp] theorem State.popWord_cycles (s : State) : ((s.popWord).2).cycles = s.cycles + 2 := by
  simp only [State.popWord, State.memRead_cycles]; bv_omega
@[simp] theorem State.popWord_mem (s : State) : ((s.popWord).2).mem = s.mem := by simp [State.popWord]
@[simp] theorem State.popWord_cfg (s : State) : ((s.popWord).2).cfg = s.cfg := by simp [State.popWord]
@[simp] theorem State.popWord_inbox (s : State) : ((s.popWord).2).inbox = s.inbox := by simp [State.popWord]
@[simp] theorem State.popWord_byteAt (s : State) (y : Word) : ((s.popWord).2).byteAt y = s.byteAt y := by simp [State.byteAt]
@[simp] theorem State.popWord_kindAt (s : State) (y : Word) : ((s.popWord).2).kindAt y = s.kindAt y := by simp [State.kindAt]
@[simp] theorem State.popWord_reg (s : State) (q : R8) : ((s.popWord).2).reg q = s.reg q := by cases q <;> simp [State.reg]
@[simp] theorem State.popWord_fZ (s : State) : ((s.popWord).2).fZ = s.fZ := by simp [State.fZ]
@[simp] theorem State.popWord_fN (s : State) : ((s.popWord).2).fN = s.fN := by simp [State.fN]
@[simp] theorem State.popWord_fH (s : State) : ((s.popWord).2).fH = s.fH := by simp [State.fH]
@[simp] theorem State.popWord_fC (s : State) : ((s.popWord).2).fC = s.fC := by simp [State.fC]
@[simp] theorem State.popWord_flags (s : State) : ((s.popWord).2).flags = s.flags := by simp [State.flags]
@[simp] theorem State.popWord_readF (s : State) : ((s.popWord).2).readF = s.readF := by simp [State.readF]
@[simp] theorem State.popWord_bc (s : State) : ((s.popWord).2).bc = s.bc := by simp [State.bc]
@[simp] theorem State.popWord_de (s : State) : ((s.popWord).2).de = s.de := by simp [State.de]
@[simp] theorem State.popWord_hl (s : State) : ((s.popWord).2).hl = s.hl := by simp [State.hl]

/-! ### `returnToCaller` -/

@[simp] theorem State.returnToCaller_A (s : State) : (s.returnToCaller).A = s.A := by simp [State.returnToCaller]
@[simp] theorem State.returnToCaller_F (s : State) : (s.returnToCaller).F = s.F := by simp [State.returnToCaller]
@[simp] theorem State.returnToCaller_B (s : State) : (s.returnToCaller).B = s.B := by simp [State.returnToCaller]
@[simp] theorem State.returnToCaller_C (s : State) : (s.returnToCaller).C = s.C := by simp [State.returnToCaller]
@[simp] theorem State.returnToCaller_D (s : State) : (s.returnToCaller).D = s.D := by simp [State.returnToCaller]
@[simp] theorem State.returnToCaller_E (s : State) : (s.returnToCaller).E = s.E := by simp [State.returnToCaller]
@[simp] theorem State.returnToCaller_H (s : State) : (s.returnToCaller).H = s.H := by simp [State.returnToCaller]
@[simp] theorem State.returnToCaller_L (s : State) : (s.returnToCaller).L = s.L := by simp [State.returnToCaller]
@[simp] theorem State.returnToCaller_sp (s : State) : (s.returnToCaller).sp = s.sp + 2 := by simp [State.returnToCaller]
@[simp] theorem State.returnToCaller_IME (s : State) : (s.returnToCaller).IME = s.IME := by simp [State.returnToCaller]
@[simp] theorem State.returnToCaller_cycles (s : State) : (s.returnToCaller).cycles = s.cycles + 3 := by
  simp only [State.returnToCaller, State.internal_cycles, State.popWord_cycles]; bv_omega
@[simp] theorem State.returnToCaller_mem (s : State) : (s.returnToCaller).mem = s.mem := by simp [State.returnToCaller]
@[simp] theorem State.returnToCaller_cfg (s : State) : (s.returnToCaller).cfg = s.cfg := by simp [State.returnToCaller]
@[simp] theorem State.returnToCaller_inbox (s : State) : (s.returnToCaller).inbox = s.inbox := by simp [State.returnToCaller]
@[simp] theorem State.returnToCaller_byteAt (s : State) (y : Word) : (s.returnToCaller).byteAt y = s.byteAt y := by simp [State.byteAt]
@[simp] theorem State.returnToCaller_kindAt (s : State) (y : Word) : (s.returnToCaller).kindAt y = s.kindAt y := by simp [State.kindAt]
@[simp] theorem State.returnToCaller_reg (s : State) (q : R8) : (s.returnToCaller).reg q = s.reg q := by cases q <;> simp [State.reg]
@[simp] theorem State.returnToCaller_fZ (s : State) : (s.returnToCaller).fZ = s.fZ := by simp [State.fZ]
@[simp] theorem State.returnToCaller_fN (s : State) : (s.returnToCaller).fN = s.fN := by simp [State.fN]
@[simp] theorem State.returnToCaller_fH (s : State) : (s.returnToCaller).fH = s.fH := by simp [State.fH]
@[simp] theorem State.returnToCaller_fC (s : State) : (s.returnToCaller).fC = s.fC := by simp [State.fC]
@[simp] theorem State.returnToCaller_flags (s : State) : (s.returnToCaller).flags = s.flags := by simp [State.flags]
@[simp] theorem State.returnToCaller_readF (s : State) : (s.returnToCaller).readF = s.readF := by simp [State.readF]
@[simp] theorem State.returnToCaller_bc (s : State) : (s.returnToCaller).bc = s.bc := by simp [State.bc]
@[simp] theorem State.returnToCaller_de (s : State) : (s.returnToCaller).de = s.de := by simp [State.de]
@[simp] theorem State.returnToCaller_hl (s : State) : (s.returnToCaller).hl = s.hl := by simp [State.hl]

end Sys2Proof.Machine
end

