-- ==== Sys2Proof/Laws/Ops.lean ====
section
/-! SUPPORT. For each shared operation one lemma that says once everything it can do, in the terms of
`Safety`: the memory port, the fetch, the stack, the arbiter and the environment's moves; and that each
keeps the invariant. -/

namespace Sys2Proof.Machine

/-! ### Frames -/

theorem Keeps.refl (changed : List Part) (s : State) : Keeps changed s s := by
  intro p _
  cases p <;> simp [Part.same]

theorem Keeps.mono {a b : List Part} {s t : State} (h : Keeps a s t) (hab : ∀ p ∈ a, p ∈ b) : Keeps b s t :=
  fun p hp => h p (fun hpa => hp (hab p hpa))

theorem Keeps.trans {a : List Part} {s t u : State} (h : Keeps a s t) (h' : Keeps a t u) : Keeps a s u := by
  intro p hp
  have h1 := h p hp
  have h2 := h' p hp
  cases p <;> simp only [Part.same] at h1 h2 ⊢ <;> simp [h1, h2]

/-! ### The flags of a packed F -/

theorem FlagsAre.setFlags (s : State) (f : Flags) : FlagsAre f.z f.n f.h f.c (s.setFlags f) :=
  ⟨by simp, by simp, by simp, by simp, State.setFlags_low s f⟩

/-! ### The memory port -/

/-- Two states that the facade cannot tell apart. -/
structure SameFacade (s t : State) : Prop where
  mem   : t.mem = s.mem
  cfg   : t.cfg = s.cfg
  IE    : t.IE = s.IE
  IF    : t.IF = s.IF
  facade : t.facade = s.facade
  asked : t.asked = s.asked

theorem SameFacade.refl (s : State) : SameFacade s s := ⟨rfl, rfl, rfl, rfl, rfl, rfl⟩

theorem SameFacade.byteAt {s t : State} (h : SameFacade s t) (a : Word) : t.byteAt a = s.byteAt a := by
  simp [State.byteAt, h.mem]

theorem SameFacade.kindAt {s t : State} (h : SameFacade s t) (a : Word) : t.kindAt a = s.kindAt a := by
  simp [State.kindAt, h.cfg]

/-- A device answers two such states alike. -/
theorem SameFacade.deviceCall {s t : State} (h : SameFacade s t) (x : Access) : t.deviceCall x = s.deviceCall x := by
  simp [State.deviceCall, h.mem, h.IE, h.IF, h.facade, h.asked]

theorem DeviceEffect.congr {x : Access} {s s' t t' : State} (hs : SameFacade s s') (ht : SameFacade t t')
    (h : DeviceEffect x s t) : DeviceEffect x s' t' := by
  unfold DeviceEffect at *
  rwa [hs.deviceCall, hs.asked, ht.facade, ht.IE, ht.IF, ht.asked]

theorem FacadeRead.congr {a : Word} {v : Byte} {s s' t t' : State} (hs : SameFacade s s') (ht : SameFacade t t')
    (h : FacadeRead a v s t) : FacadeRead a v s' t' where
  plain := by simpa [hs.kindAt, hs.byteAt] using h.plain
  portIE := by simpa [hs.kindAt, hs.IE] using h.portIE
  portIF := by simpa [hs.kindAt, hs.IF] using h.portIF
  device := by simpa [hs.kindAt, hs.deviceCall] using h.device
  quiet := by simpa [hs.kindAt, hs.IE, hs.IF, hs.facade, hs.asked, ht.IE, ht.IF, ht.facade, ht.asked] using h.quiet
  effect := by rw [hs.kindAt]; exact fun k => (h.effect k).congr hs ht
  memory := by simpa [hs.byteAt, ht.byteAt] using h.memory
  cfg := by rw [ht.cfg, hs.cfg, h.cfg]

theorem FacadeWrite.congr {a : Word} {v : Byte} {s s' t t' : State} (hs : SameFacade s s') (ht : SameFacade t t')
    (h : FacadeWrite a v s t) : FacadeWrite a v s' t' where
  stored := by simpa [hs.kindAt, ht.byteAt] using h.stored
  ignored := by simpa [hs.kindAt, hs.byteAt, ht.byteAt] using h.ignored
  others := by simpa [hs.byteAt, ht.byteAt] using h.others
  portIE := by simpa [hs.kindAt, hs.IF, hs.facade, hs.asked, ht.IE, ht.IF, ht.facade, ht.asked] using h.portIE
  portIF := by simpa [hs.kindAt, hs.IE, hs.facade, hs.asked, ht.IE, ht.IF, ht.facade, ht.asked] using h.portIF
  quiet := by simpa [hs.kindAt, hs.IE, hs.IF, hs.facade, hs.asked, ht.IE, ht.IF, ht.facade, ht.asked] using h.quiet
  effect := by rw [hs.kindAt]; exact fun k => (h.effect k).congr hs ht
  cfg := by rw [ht.cfg, hs.cfg, h.cfg]

/-- Everything one read does (R31). -/
theorem State.memRead_spec (s : State) (a : Word) : FacadeRead a (s.memRead a).1 s (s.memRead a).2 := by
  constructor
  case memory => intro x; simp
  case cfg => simp
  all_goals cases h : s.kindAt a <;> simp [State.memRead, h, DeviceEffect]

theorem State.memRead_keeps (s : State) (a : Word) : Keeps readParts s (s.memRead a).2 := by
  intro p hp
  cases p <;> simp_all [Part.same]

/-- Everything one write does (R32). -/
theorem State.memWrite_spec (s : State) (a : Word) (v : Byte) : FacadeWrite a v s (s.memWrite a v) := by
  have hne : ∀ x : Word, x ≠ a → x.toNat ≠ a.toNat := fun x h e => h (BitVec.eq_of_toNat_eq e)
  constructor
  case cfg => simp
  case others =>
    intro x hx
    cases h : s.kindAt a <;>
      simp [State.memWrite, h, State.byteAt, Memory.read_write_other _ _ (hne x hx)]
  all_goals cases h : s.kindAt a <;> simp [State.memWrite, h, State.byteAt, DeviceEffect]

theorem State.memWrite_keeps (s : State) (a : Word) (v : Byte) : Keeps writeParts s (s.memWrite a v) := by
  intro p hp
  cases p <;> simp_all [Part.same]

/-- Everything one fetch does (R37). -/
theorem State.fetch8_spec (s : State) : Fetched s.fetch8.1 s s.fetch8.2 where
  read := by
    have h : SameFacade (s.memRead s.pc).2 s.fetch8.2 := ⟨rfl, rfl, rfl, rfl, rfl, rfl⟩
    exact (s.memRead_spec s.pc).congr (SameFacade.refl s) h
  pc := by simp
  cycles := by simp
  rest := by
    intro p hp
    cases p <;> simp_all [Part.same]

/-! ### The stack -/

theorem SameFacade.of_fields {s t : State} (h1 : t.mem = s.mem) (h2 : t.cfg = s.cfg) (h3 : t.IE = s.IE)
    (h4 : t.IF = s.IF) (h5 : t.facade = s.facade) (h6 : t.asked = s.asked) :
    SameFacade s t := ⟨h1, h2, h3, h4, h5, h6⟩

/-- Everything the two writes of a push do (R44, R167). -/
theorem State.pushBytes_spec (s : State) (v : Word) : Pushed v s (s.pushBytes v) := by
  let s1 : State := { s with sp := s.sp - 1 }
  let m : State := s1.memWrite (s.sp - 1) (hiByte v)
  let m' : State := { m with sp := m.sp - 1 }
  have hsp : m.sp - 1 = s.sp - 2 := by
    show (s1.memWrite (s.sp - 1) (hiByte v)).sp - 1 = _
    rw [State.memWrite_sp]; show s.sp - 1 - 1 = _; bv_omega
  have e : s.pushBytes v = m'.memWrite (s.sp - 2) (loByte v) := by
    rw [← hsp]; rfl
  have w1 : FacadeWrite (s.sp - 1) (hiByte v) s m :=
    (s1.memWrite_spec (s.sp - 1) (hiByte v)).congr (s := s1) (SameFacade.of_fields rfl rfl rfl rfl rfl rfl) (SameFacade.refl m)
  have w2 : FacadeWrite (s.sp - 2) (loByte v) m (s.pushBytes v) := by
    rw [e]
    exact (m'.memWrite_spec (s.sp - 2) (loByte v)).congr (s := m') (SameFacade.of_fields rfl rfl rfl rfl rfl rfl) (SameFacade.refl _)
  exact ⟨by simp, ⟨m, w1, w2⟩, fun x h1 h2 => (w2.others x h2).trans (w1.others x h1)⟩

theorem State.pushBytes_keeps (s : State) (v : Word) : Keeps (.sp :: writeParts) s (s.pushBytes v) := by
  intro p hp
  cases p <;> simp_all [Part.same]

theorem Pushed.congr {v : Word} {s s' t t' : State} (hsp : s'.sp = s.sp) (tsp : t'.sp = t.sp)
    (hs : SameFacade s s') (ht : SameFacade t t') (h : Pushed v s t) : Pushed v s' t' where
  sp := by rw [tsp, hsp, h.sp]
  writes := by
    obtain ⟨m, h1, h2⟩ := h.writes
    rw [hsp]
    exact ⟨m, h1.congr hs (SameFacade.refl m), h2.congr (SameFacade.refl m) ht⟩
  others := by
    intro x h1 h2
    rw [hsp] at h1 h2
    rw [ht.byteAt, hs.byteAt, h.others x h1 h2]

/-- Everything a push does (R44). -/
theorem State.pushWord_spec (s : State) (v : Word) : Pushed v s (s.pushWord v) :=
  ((s.internal 1).pushBytes_spec v).congr (s := s.internal 1) rfl rfl
    (SameFacade.of_fields rfl rfl rfl rfl rfl rfl) (SameFacade.refl _)

theorem State.pushWord_keeps (s : State) (v : Word) : Keeps (.sp :: writeParts) s (s.pushWord v) := by
  intro p hp
  cases p <;> simp_all [Part.same]

/-- Everything a pop does (R44). -/
theorem State.popWord_spec (s : State) : Popped s.popWord.1 s s.popWord.2 := by
  let m := (s.memRead s.sp).2
  let m' : State := { m with sp := m.sp + 1 }
  have hm : m'.sp = s.sp + 1 := by
    show m.sp + 1 = _
    rw [State.memRead_sp]
  have r1 : FacadeRead s.sp (s.memRead s.sp).1 s m := s.memRead_spec s.sp
  have r2 : FacadeRead (s.sp + 1) (m'.memRead m'.sp).1 m s.popWord.2 := by
    rw [← hm]
    have h : SameFacade (m'.memRead m'.sp).2 s.popWord.2 := ⟨rfl, rfl, rfl, rfl, rfl, rfl⟩
    exact (m'.memRead_spec m'.sp).congr (s := m') (SameFacade.of_fields rfl rfl rfl rfl rfl rfl) h
  have e : s.popWord.1 = joinBytes (m'.memRead m'.sp).1 (s.memRead s.sp).1 := rfl
  exact ⟨by simp, ⟨_, _, m, r1, r2, by rw [e, hiByte_joinBytes], by rw [e, loByte_joinBytes]⟩⟩

theorem State.popWord_keeps (s : State) : Keeps (.sp :: readParts) s s.popWord.2 := by
  intro p hp
  cases p <;> simp_all [Part.same]

theorem Popped.congr {v : Word} {s s' t t' : State} (hsp : s'.sp = s.sp) (tsp : t'.sp = t.sp)
    (hs : SameFacade s s') (ht : SameFacade t t') (h : Popped v s t) : Popped v s' t' where
  sp := by rw [tsp, hsp, h.sp]
  reads := by
    obtain ⟨lo, hi, m, h1, h2, h3⟩ := h.reads
    rw [hsp]
    exact ⟨lo, hi, m, h1.congr hs (SameFacade.refl m), h2.congr (SameFacade.refl m) ht, h3⟩

/-! ### Passing the port's lemmas through a register write, and costs -/

theorem FacadeRead.setReg {a : Word} {v : Byte} {s t : State} (r : R8) (w : Byte) (h : FacadeRead a v s t) :
    FacadeRead a v s (t.setReg r w) :=
  h.congr (SameFacade.refl s) ⟨by simp, by simp, by simp, by simp, by simp, by simp⟩

theorem FacadeRead.setFlags {a : Word} {v : Byte} {s t : State} (f : Flags) (h : FacadeRead a v s t) :
    FacadeRead a v s (t.setFlags f) :=
  h.congr (SameFacade.refl s) ⟨by simp, by simp, by simp, by simp, by simp, by simp⟩

theorem FacadeRead.setHL {a : Word} {v : Byte} {s t : State} (w : Word) (h : FacadeRead a v s t) :
    FacadeRead a v s (t.setHL w) :=
  h.congr (SameFacade.refl s) ⟨by simp, by simp, by simp, by simp, by simp, by simp⟩

theorem FacadeWrite.setFlags {a : Word} {v : Byte} {s t : State} (f : Flags) (h : FacadeWrite a v s t) :
    FacadeWrite a v s (t.setFlags f) :=
  h.congr (SameFacade.refl s) ⟨by simp, by simp, by simp, by simp, by simp, by simp⟩

theorem FacadeWrite.setHL {a : Word} {v : Byte} {s t : State} (w : Word) (h : FacadeWrite a v s t) :
    FacadeWrite a v s (t.setHL w) :=
  h.congr (SameFacade.refl s) ⟨by simp, by simp, by simp, by simp, by simp, by simp⟩

/-- The cost of an instruction is its length plus the machine cycles its meaning charges. -/
theorem Costs.of_cycles {i : Instr} {n : Nat} {s t : State} (k : Nat) (hn : (encode i).length + k = n)
    (ht : t.cycles = s.cycles + BitVec.ofNat 8 k) : Costs i n s t := by
  unfold Costs
  rw [ht, ← hn, BitVec.ofNat_add]
  generalize BitVec.ofNat 8 (encode i).length = x
  generalize BitVec.ofNat 8 k = y
  bv_omega

/-- Flags that were written, described by their values. -/
theorem FlagsAre.of_setFlags (s : State) (f : Flags) {z n h c : Bool} (hz : f.z = z) (hn : f.n = n) (hh : f.h = h)
    (hc : f.c = c) : FlagsAre z n h c (s.setFlags f) := by
  subst hz hn hh hc; exact FlagsAre.setFlags s f

/-- `FlagsAre` reads nothing but F. -/
theorem FlagsAre.congr {z n h c : Bool} {s t : State} (hF : t.F = s.F) (H : FlagsAre z n h c s) : FlagsAre z n h c t := by
  unfold FlagsAre State.fZ State.fN State.fH State.fC at *; rw [hF]; exact H

/-- The target of a relative jump, and `SP + e8`, in the integers. -/
theorem PlusSigned.sext16 (w : Word) (e : Byte) : PlusSigned w e (w + sext16 e) := by
  unfold PlusSigned Sys2Proof.sext16
  have h := w.isLt
  have h1 := e.isLt
  have hm : e.msb = decide (128 ≤ e.toNat) := by rw [BitVec.msb_eq_decide]
  have ht := BitVec.toInt_eq_msb_cond e
  simp only [BitVec.toNat_add, BitVec.toNat_signExtend, BitVec.toNat_setWidth]
  by_cases h2 : 128 ≤ e.toNat
  · rw [hm] at ht ⊢; rw [decide_eq_true h2] at ht ⊢; rw [ht]; simp only [if_true]; omega
  · rw [hm] at ht ⊢; rw [decide_eq_false h2] at ht ⊢; rw [ht]; simp

/-! ### The invariant, operation by operation -/

theorem State.setReg_inv {s : State} (r : R8) (v : Byte) (h : s.Inv) : (s.setReg r v).Inv :=
  ⟨by simpa using h.1, by simpa using h.2⟩

theorem State.setFlags_inv {s : State} (f : Flags) (h : s.Inv) : (s.setFlags f).Inv :=
  ⟨State.setFlags_low s f, by simpa using h.2⟩

theorem State.internal_inv {s : State} (n : Nat) (h : s.Inv) : (s.internal n).Inv := h

theorem State.memRead_inv {s : State} (a : Word) (h : s.Inv) : (s.memRead a).2.Inv :=
  ⟨by simpa using h.1, by simpa using h.2⟩

theorem State.memWrite_inv {s : State} (a : Word) (v : Byte) (h : s.Inv) : (s.memWrite a v).Inv := by
  refine ⟨by simpa using h.1, ?_⟩
  unfold State.memWrite
  split
  · exact Memory.wf_write_word a v h.2
  all_goals exact h.2

theorem State.rd8_inv {s : State} (o : Opnd) (h : s.Inv) : (s.rd8 o).2.Inv := by
  cases o
  · exact h
  · exact State.memRead_inv _ h

theorem State.wr8_inv {s : State} (o : Opnd) (v : Byte) (h : s.Inv) : (s.wr8 o v).Inv := by
  cases o
  · exact State.setReg_inv _ _ h
  · exact State.memWrite_inv _ _ h

theorem State.setRp_inv {s : State} (p : RP) (v : Word) (h : s.Inv) : (s.setRp p v).Inv := by
  cases p <;> exact h

theorem State.setRq_inv {s : State} (q : RQ) (v : Word) (h : s.Inv) : (s.setRq q v).Inv := by
  cases q
  case AF => exact ⟨by show loByte v &&& 0xF0 &&& 0x0F = 0; rw [BitVec.and_assoc]; simp, h.2⟩
  all_goals exact h

theorem State.pushBytes_inv {s : State} (v : Word) (h : s.Inv) : (s.pushBytes v).Inv := by
  let s1 : State := { s with sp := s.sp - 1 }
  let m : State := s1.memWrite s1.sp (hiByte v)
  let m' : State := { m with sp := m.sp - 1 }
  have hm : m.Inv := State.memWrite_inv s1.sp (hiByte v) (s := s1) h
  exact State.memWrite_inv m'.sp (loByte v) (s := m') hm

theorem State.pushWord_inv {s : State} (v : Word) (h : s.Inv) : (s.pushWord v).Inv :=
  State.pushBytes_inv v (State.internal_inv 1 h)

theorem State.popWord_inv {s : State} (h : s.Inv) : s.popWord.2.Inv :=
  ⟨by simpa using h.1, by simpa using h.2⟩

theorem State.fetch8_inv {s : State} (h : s.Inv) : s.fetch8.2.Inv := ⟨by simpa using h.1, by simpa using h.2⟩

theorem State.powerOn_inv (p : Params) : (State.powerOn p).Inv :=
  ⟨by show p.reset.F &&& 0xF0 &&& 0x0F = 0; rw [BitVec.and_assoc]; simp, rfl⟩

theorem State.applyMove_inv {s : State} (m : EnvMove) (h : s.Inv) : (s.applyMove m).Inv := by
  cases m
  case changeMemory a v => exact ⟨h.1, Memory.wf_write_word a v h.2⟩
  case powerOnReset => exact ⟨(State.powerOn_inv s.cfg).1, h.2⟩
  all_goals exact h

theorem State.applyMoves_inv {s : State} (moves : List EnvMove) (h : s.Inv) : (s.applyMoves moves).Inv := by
  induction moves generalizing s with
  | nil => exact h
  | cons m rest ih => exact ih (State.applyMove_inv m h)

theorem State.environment_inv {s : State} (h : s.Inv) : s.environment.Inv := by
  unfold State.environment
  split
  · exact h
  · exact State.applyMoves_inv (s := { s with inbox := _ }) _ h

/-! ### The arbiter (R165, R166) -/

/-- What `lowestSource` answers, by the bits of the requests. -/
theorem lowestSource_some {req : Byte} {n : Source} (h : lowestSource req = some n) :
    req.getLsbD n.bit = true ∧ ∀ k < n.bit, req.getLsbD k = false := by
  unfold lowestSource at h
  split at h
  · cases h; exact ⟨by assumption, by simp [Source.bit]⟩
  · split at h
    · cases h; refine ⟨by assumption, fun k hk => ?_⟩
      obtain rfl : k = 0 := by simp [Source.bit] at hk; omega
      simp_all
    · split at h
      · cases h; refine ⟨by assumption, fun k hk => ?_⟩
        obtain rfl | rfl : k = 0 ∨ k = 1 := by simp [Source.bit] at hk; omega
        all_goals simp_all
      · split at h
        · cases h; refine ⟨by assumption, fun k hk => ?_⟩
          obtain rfl | rfl | rfl : k = 0 ∨ k = 1 ∨ k = 2 := by simp [Source.bit] at hk; omega
          all_goals simp_all
        · split at h
          · cases h; refine ⟨by assumption, fun k hk => ?_⟩
            obtain rfl | rfl | rfl | rfl : k = 0 ∨ k = 1 ∨ k = 2 ∨ k = 3 := by simp [Source.bit] at hk; omega
            all_goals simp_all
          · cases h

theorem lowestSource_none {req : Byte} (h : lowestSource req = none) : ∀ k < 5, req.getLsbD k = false := by
  unfold lowestSource at h
  intro k hk
  split at h; · cases h
  split at h; · cases h
  split at h; · cases h
  split at h; · cases h
  split at h; · cases h
  obtain rfl | rfl | rfl | rfl | rfl : k = 0 ∨ k = 1 ∨ k = 2 ∨ k = 3 ∨ k = 4 := by omega
  all_goals simp_all

end Sys2Proof.Machine
end

