-- ==== Sys2Proof/Laws/Step.lean ====
section
/-! SUPPORT. The arbiter, the dispatch, the fetch of an instruction and the tick: for each one lemma that
says what it does. -/

namespace Sys2Proof.Machine

/-! ### The arbiter (R165, R166) -/

theorem State.requests_bit (x : Byte) {k : Nat} (hk : k < 5) : (x &&& 0x1F).getLsbD k = x.getLsbD k := by
  rw [BitVec.getLsbD_and]
  obtain rfl | rfl | rfl | rfl | rfl : k = 0 ∨ k = 1 ∨ k = 2 ∨ k = 3 ∨ k = 4 := by omega
  all_goals simp

theorem State.selected_eq_none (s : State) : s.selected = none ↔ NoDispatch s := by
  unfold State.selected NoDispatch State.requests
  cases s.IME <;> simp
  generalize s.IE &&& s.IF = x
  revert x; decide +kernel

theorem lowestSource_eq_some {x : Byte} {n : Nat} (hn : n < 5) (h1 : x.getLsbD n = true)
    (h2 : ∀ k < n, x.getLsbD k = false) : ∃ src : Source, src.bit = n ∧ lowestSource x = some src := by
  cases h : lowestSource x with
  | none => rw [lowestSource_none h n hn] at h1; cases h1
  | some src =>
    refine ⟨src, ?_, rfl⟩
    have ⟨g1, g2⟩ := lowestSource_some h
    rcases Nat.lt_trichotomy src.bit n with hlt | heq | hgt
    · rw [h2 _ hlt] at g1; cases g1
    · exact heq
    · rw [g2 _ hgt] at h1; cases h1

theorem State.selected_eq_some (s : State) (n : Nat) :
    Dispatches n s ↔ ∃ src : Source, src.bit = n ∧ s.selected = some src := by
  unfold State.selected Dispatches State.requests
  generalize s.IE &&& s.IF = x
  constructor
  · rintro ⟨hi, h, h1, h2⟩
    rw [hi, if_pos rfl]
    exact lowestSource_eq_some h (by rwa [State.requests_bit x h])
      (fun k hk => by rw [State.requests_bit x (by omega)]; exact h2 k hk)
  · rintro ⟨src, rfl, h⟩
    split at h
    · have ⟨h1, h2⟩ := lowestSource_some h
      have hb : src.bit < 5 := by cases src <;> decide
      refine ⟨by assumption, hb, by rwa [State.requests_bit x hb] at h1, fun k hk => ?_⟩
      have := h2 k hk
      rwa [State.requests_bit x (by omega)] at this
    · cases h

/-! ### The dispatch (R167 to R169) -/

theorem Source.vector_eq (n : Source) : n.vector = BitVec.ofNat 16 (0x40 + 8 * n.bit) := by cases n <;> rfl

/-- Everything a dispatch does. -/
theorem State.dispatch_spec (s : State) (n : Source) :
    (s.dispatch n).IME = false ∧ (s.dispatch n).pc = n.vector ∧ (s.dispatch n).cycles = s.cfg.dispatchCycles ∧
    Pushed s.pc { s with IME := false, IF := s.IF &&& ~~~ n.mask } (s.dispatch n) ∧
    Keeps (.IME :: .pc :: .sp :: writeParts) s (s.dispatch n) := by
  let s1 : State := { s with IME := false, IF := s.IF &&& ~~~ n.mask }
  have hp := s1.pushBytes_spec s1.pc
  have hk := s1.pushBytes_keeps s1.pc
  refine ⟨?_, rfl, ?_, ?_, ?_⟩
  · show (s1.pushBytes s1.pc).IME = false; simp [s1]
  · show (s1.pushBytes s1.pc).cfg.dispatchCycles = _; simp [s1]
  · exact Pushed.congr (s := s1) (t := s1.pushBytes s1.pc) rfl rfl (SameFacade.refl _) ⟨rfl, rfl, rfl, rfl, rfl, rfl⟩ hp
  · intro p hp
    have := hk p (by simp_all)
    cases p <;> first | exact this | simp_all

theorem State.dispatch_inv {s : State} (n : Source) (h : s.Inv) : (s.dispatch n).Inv := by
  let s1 : State := { s with IME := false, IF := s.IF &&& ~~~ n.mask }
  exact State.pushBytes_inv s1.pc (s := s1) h

/-! ### The fetch of an instruction (R156) -/

theorem instrLength_cases (b : Byte) : instrLength b = 1 ∨ instrLength b = 2 ∨ instrLength b = 3 := by
  revert b; decide +kernel

theorem State.fetchInstr_one {s : State} (h : instrLength s.fetch8.1 = 1) :
    s.fetchInstr = (decodeBytes s.fetch8.1 0 0, s.fetch8.2) := by
  unfold State.fetchInstr; simp [h]

theorem State.fetchInstr_two {s : State} (h : instrLength s.fetch8.1 = 2) :
    s.fetchInstr = (decodeBytes s.fetch8.1 s.fetch8.2.fetch8.1 0, s.fetch8.2.fetch8.2) := by
  unfold State.fetchInstr; simp [h]

theorem State.fetchInstr_three {s : State} (h : instrLength s.fetch8.1 = 3) :
    s.fetchInstr = (decodeBytes s.fetch8.1 s.fetch8.2.fetch8.1 s.fetch8.2.fetch8.2.fetch8.1,
      s.fetch8.2.fetch8.2.fetch8.2) := by
  unfold State.fetchInstr; simp [h]

theorem State.fetchInstr_inv {s : State} (h : s.Inv) : s.fetchInstr.2.Inv := by
  rcases instrLength_cases s.fetch8.1 with hl | hl | hl
  · rw [State.fetchInstr_one hl]; exact State.fetch8_inv h
  · rw [State.fetchInstr_two hl]; exact State.fetch8_inv (State.fetch8_inv h)
  · rw [State.fetchInstr_three hl]; exact State.fetch8_inv (State.fetch8_inv (State.fetch8_inv h))

/-- A fetch from plain memory: the stored byte, and nothing but pc and `cycles` changes. -/
theorem State.fetch8_plain {s : State} (h : s.kindAt s.pc = .ram ∨ s.kindAt s.pc = .rom) :
    s.fetch8 = (s.byteAt s.pc, { s with pc := s.pc + 1, cycles := s.cycles + 1 }) := by
  unfold State.fetch8 State.memRead
  rcases h with h | h <;> rw [h] <;> rfl

/-! ### The tick (R170) -/

/-- A tick that dispatches. -/
theorem tick_of_selected {s : State} {n : Source} (h : s.selected = some n) :
    tick s = .next (s.beginTick.dispatch n) := by
  have h' : s.beginTick.selected = some n := h
  unfold tick; rw [h']

/-- A tick that does not dispatch runs the fetched instruction. -/
theorem tick_of_noDispatch {s : State} (h : NoDispatch s) :
    tick s = exec (s.beginTick.fetchInstr).1 (s.beginTick.fetchInstr).2 := by
  have h' : s.beginTick.selected = none := (State.selected_eq_none s).2 h
  unfold tick; rw [h']; rfl

/-- With no move waiting, the environment does nothing. -/
theorem State.environment_of_empty {s : State} (h : s.inbox = []) : s.environment = s := by
  unfold State.environment; rw [h]

end Sys2Proof.Machine
end

