-- ==== Sys2Proof/Laws/Meanings.lean ====
section
/-! SUPPORT. What every shared operation of the meanings has in common, stated once for each of them: the
gate and the parameters stay, the machine cycles it charges, the invariant is kept, the interrupt masks are
reached only through the facade; and, unless it transfers control, pc stays. -/

namespace Sys2Proof.Machine

/-- What an operation that charges `c` machine cycles has in common with the others. -/
structure Steady (c : Byte) (s t : State) : Prop where
  gate   : t.IME = s.IME
  cfg    : t.cfg = s.cfg
  inbox  : t.inbox = s.inbox
  asked  : s.asked ≤ t.asked
  cycles : t.cycles = s.cycles + c
  inv    : s.Inv → t.Inv
  masks  : s.plainFacade → t.IE = s.IE ∧ t.IF = s.IF ∧ t.facade = s.facade ∧ t.asked = s.asked

/-- The same of an operation that does not transfer control. -/
structure Straight (c : Byte) (s t : State) : Prop extends Steady c s t where
  pc : t.pc = s.pc

theorem State.plainFacade_of_cfg {s t : State} (hc : t.cfg = s.cfg) (h : s.plainFacade) : t.plainFacade := by
  intro a; unfold State.kindAt; rw [hc]; exact h a

theorem Steady.refl (s : State) : Steady 0 s s :=
  ⟨rfl, rfl, rfl, Nat.le_refl _, by simp, id, fun _ => ⟨rfl, rfl, rfl, rfl⟩⟩

theorem Steady.trans {c d : Byte} {s t u : State} (h : Steady c s t) (k : Steady d t u) : Steady (c + d) s u where
  gate := k.gate.trans h.gate
  cfg := k.cfg.trans h.cfg
  inbox := k.inbox.trans h.inbox
  asked := h.asked.trans k.asked
  cycles := by rw [k.cycles, h.cycles, BitVec.add_assoc]
  inv := fun i => k.inv (h.inv i)
  masks := fun p => by
    have h1 := h.masks p
    have h2 := k.masks (State.plainFacade_of_cfg h.cfg p)
    exact ⟨h2.1.trans h1.1, h2.2.1.trans h1.2.1, h2.2.2.1.trans h1.2.2.1, h2.2.2.2.trans h1.2.2.2⟩

theorem Straight.refl (s : State) : Straight 0 s s := ⟨Steady.refl s, rfl⟩

theorem Straight.trans {c d : Byte} {s t u : State} (h : Straight c s t) (k : Straight d t u) : Straight (c + d) s u :=
  ⟨h.toSteady.trans k.toSteady, k.pc.trans h.pc⟩

/-- An operation that charges nothing may follow. -/
theorem Straight.free {c : Byte} {s t u : State} (h : Straight c s t) (k : Straight 0 t u) : Straight c s u := by
  have hk := h.trans k
  have e : c + 0 = c := by bv_omega
  rwa [e] at hk

/-! ### Registers, cycles and the memory port -/

theorem Straight.setReg (s : State) (r : R8) (v : Byte) : Straight 0 s (s.setReg r v) :=
  ⟨⟨by simp, by simp, by simp, by simp, by simp, State.setReg_inv r v, by simp⟩, by simp⟩

theorem Straight.setFlags (s : State) (f : Flags) : Straight 0 s (s.setFlags f) :=
  ⟨⟨by simp, by simp, by simp, by simp, by simp, State.setFlags_inv f, by simp⟩, by simp⟩

theorem Straight.setHL (s : State) (v : Word) : Straight 0 s (s.setHL v) :=
  ⟨⟨by simp, by simp, by simp, by simp, by simp, State.setRp_inv .HL v, by simp⟩, by simp⟩

theorem Straight.setRp (s : State) (p : RP) (v : Word) : Straight 0 s (s.setRp p v) :=
  ⟨⟨by simp, by simp, by simp, by simp, by simp, State.setRp_inv p v, by simp⟩, by simp⟩

theorem Straight.setRq (s : State) (q : RQ) (v : Word) : Straight 0 s (s.setRq q v) :=
  ⟨⟨by simp, by simp, by simp, by simp, by simp, State.setRq_inv q v, by simp⟩, by simp⟩

theorem Straight.setSP (s : State) (v : Word) : Straight 0 s { s with sp := v } :=
  ⟨⟨rfl, rfl, rfl, Nat.le_refl _, by simp, id, fun _ => ⟨rfl, rfl, rfl, rfl⟩⟩, rfl⟩

theorem Steady.setPC (s : State) (v : Word) : Steady 0 s { s with pc := v } :=
  ⟨rfl, rfl, rfl, Nat.le_refl _, by simp, id, fun _ => ⟨rfl, rfl, rfl, rfl⟩⟩

theorem Straight.internal (s : State) (n : Nat) : Straight (BitVec.ofNat 8 n) s (s.internal n) :=
  ⟨⟨by simp, by simp, by simp, by simp, by simp, id, by simp⟩, by simp⟩

theorem Straight.memRead (s : State) (a : Word) : Straight 1 s (s.memRead a).2 :=
  ⟨⟨by simp, by simp, by simp, by unfold State.memRead; split <;> simp, by simp, State.memRead_inv a,
    fun h => (s.memRead_spec a).quiet (by rcases h a with h | h <;> rw [h] <;> decide)⟩, by simp⟩

theorem Straight.memWrite (s : State) (a : Word) (v : Byte) : Straight 1 s (s.memWrite a v) :=
  ⟨⟨by simp, by simp, by simp, by unfold State.memWrite; split <;> simp, by simp, State.memWrite_inv a v,
    fun h => (s.memWrite_spec a v).quiet (h a)⟩, by simp⟩

theorem Straight.memWriteWord (s : State) (a v : Word) : Straight 2 s (s.memWriteWord a v) :=
  (Straight.memWrite s _ _).trans (Straight.memWrite _ _ _)

/-- The machine cycles that one access of an operand form costs: the byte at HL is one access. -/
def portAccesses : Opnd → Byte
  | .reg _ => 0
  | .mHL => 1

theorem Straight.rd8 (s : State) (o : Opnd) : Straight (portAccesses o) s (s.rd8 o).2 := by
  cases o
  · exact Straight.refl s
  · exact Straight.memRead s _

theorem Straight.wr8 (s : State) (o : Opnd) (v : Byte) : Straight (portAccesses o) s (s.wr8 o v) := by
  cases o
  · exact Straight.setReg s _ _
  · exact Straight.memWrite s _ _

/-! ### The stack -/

theorem Straight.pushBytes (s : State) (v : Word) : Straight 2 s (s.pushBytes v) :=
  ((Straight.setSP s _).trans (Straight.memWrite _ _ _)).trans ((Straight.setSP _ _).trans (Straight.memWrite _ _ _))

theorem Straight.pushWord (s : State) (v : Word) : Straight 3 s (s.pushWord v) :=
  (Straight.internal s 1).trans (Straight.pushBytes _ _)

theorem Straight.popWord (s : State) : Straight 2 s s.popWord.2 :=
  ((Straight.memRead s s.sp).trans (Straight.setSP _ _)).trans ((Straight.memRead _ _).trans (Straight.setSP _ _))

/-! ### The shared operations of the families -/

theorem Straight.loadFrom (s : State) (r : R8) (a : Word) : Straight 1 s (loadFrom s r a) :=
  (Straight.memRead s a).trans (Straight.setReg _ r (s.memRead a).1)

theorem Straight.storeTo (s : State) (a : Word) (v : Byte) : Straight 1 s (storeTo s a v) := Straight.memWrite s a v

theorem Straight.storeThenSetHL (s : State) (w : Word) : Straight 1 s (storeThenSetHL s w) :=
  (Straight.memWrite s _ _).trans (Straight.setHL _ _)

theorem Straight.loadThenSetHL (s : State) (w : Word) : Straight 1 s (loadThenSetHL s w) :=
  (Straight.loadFrom s _ _).trans (Straight.setHL _ _)

theorem Straight.popPair (s : State) (q : RQ) : Straight 2 s (popPair s q) :=
  (Straight.popWord s).trans (Straight.setRq _ q s.popWord.1)

theorem Straight.loadHLFromSP (s : State) (e : Byte) : Straight 1 s (loadHLFromSP s e) :=
  ((Straight.setHL s (addSP s.sp e).1).trans (Straight.setFlags _ (addSP s.sp e).2)).trans (Straight.internal _ 1)

theorem Straight.accumulate (s : State) (op : AluOp) (v : Byte) : Straight 0 s (accumulate s op v) :=
  (Straight.setReg s .A _).trans (Straight.setFlags _ (alu op s.A v s.fC).2)

theorem Straight.accumulateOpnd (s : State) (op : AluOp) (o : Opnd) :
    Straight (portAccesses o) s (accumulateOpnd s op o) :=
  (Straight.rd8 s o).free (Straight.accumulate _ op (s.rd8 o).1)

theorem Straight.incOpnd (s : State) (o : Opnd) : Straight (portAccesses o + portAccesses o) s (incOpnd s o) :=
  ((Straight.rd8 s o).trans (Straight.wr8 _ o (inc8 (s.rd8 o).1 (s.rd8 o).2.flags).1)).free
    (Straight.setFlags _ (inc8 (s.rd8 o).1 (s.rd8 o).2.flags).2)

theorem Straight.decOpnd (s : State) (o : Opnd) : Straight (portAccesses o + portAccesses o) s (decOpnd s o) :=
  ((Straight.rd8 s o).trans (Straight.wr8 _ o (dec8 (s.rd8 o).1 (s.rd8 o).2.flags).1)).free
    (Straight.setFlags _ (dec8 (s.rd8 o).1 (s.rd8 o).2.flags).2)

theorem Straight.decimalAdjust (s : State) : Straight 0 s (decimalAdjust s) :=
  (Straight.setReg s .A _).trans (Straight.setFlags _ (daa s.A s.flags).2)

theorem Straight.addToHL (s : State) (v : Word) : Straight 1 s (addToHL s v) :=
  ((Straight.setHL s (add16 s.hl v s.flags).1).trans (Straight.setFlags _ (add16 s.hl v s.flags).2)).trans
    (Straight.internal _ 1)

theorem Straight.addToSP (s : State) (e : Byte) : Straight 2 s (addToSP s e) :=
  ((Straight.setSP s (addSP s.sp e).1).trans (Straight.setFlags _ (addSP s.sp e).2)).trans (Straight.internal _ 2)

theorem Straight.rotateA (s : State) (op : RotOp) : Straight 0 s (rotateA s op) :=
  (Straight.setReg s .A _).trans (Straight.setFlags _ (rotateAFlags op s.A s.fC).2)

theorem Straight.rotateOpnd (s : State) (op : RotOp) (o : Opnd) :
    Straight (portAccesses o + portAccesses o) s (rotateOpnd s op o) :=
  ((Straight.rd8 s o).trans (Straight.wr8 _ o (rotateFlags op (s.rd8 o).1 (s.rd8 o).2.fC).1)).free
    (Straight.setFlags _ (rotateFlags op (s.rd8 o).1 (s.rd8 o).2.fC).2)

theorem Straight.testBit (s : State) (b : Fin 8) (o : Opnd) : Straight (portAccesses o) s (testBit s b o) :=
  (Straight.rd8 s o).free
    (Straight.setFlags _ (bitFlags b (s.rd8 o).1 (s.rd8 o).2.flags))

theorem Straight.resetBitOpnd (s : State) (b : Fin 8) (o : Opnd) :
    Straight (portAccesses o + portAccesses o) s (resetBitOpnd s b o) :=
  (Straight.rd8 s o).trans (Straight.wr8 _ o _)

theorem Straight.setBitOpnd (s : State) (b : Fin 8) (o : Opnd) :
    Straight (portAccesses o + portAccesses o) s (setBitOpnd s b o) :=
  (Straight.rd8 s o).trans (Straight.wr8 _ o _)

/-! ### Control transfers -/

theorem Steady.jumpTo (s : State) (a : Word) : Steady 1 s (jumpTo s a) :=
  (Steady.setPC s a).trans (Straight.internal _ 1).toSteady

theorem Steady.callTo (s : State) (a : Word) : Steady 3 s (callTo s a) :=
  (Straight.pushWord s _).toSteady.trans (Steady.setPC _ a)

theorem Steady.returnToCaller (s : State) : Steady 3 s s.returnToCaller :=
  ((Straight.popWord s).toSteady.trans (Steady.setPC _ _)).trans (Straight.internal _ 1).toSteady

/-- A condition as the rules' table has it (R135). -/
theorem condHolds_iff (s : State) (c : Cond) : CondHolds c s ↔ s.cond c = true := by
  cases c <;> simp [CondHolds, State.cond]

theorem Steady.jumpIf (s : State) (taken : Bool) (a : Word) : Steady (if taken then 1 else 0) s (jumpIf s taken a) := by
  cases taken
  · exact Steady.refl s
  · exact Steady.jumpTo s a

theorem Steady.callIf (s : State) (taken : Bool) (a : Word) : Steady (if taken then 3 else 0) s (callIf s taken a) := by
  cases taken
  · exact Steady.refl s
  · exact Steady.callTo s a

theorem Steady.returnIf (s : State) (taken : Bool) : Steady (if taken then 4 else 1) s (returnIf s taken) := by
  cases taken
  · exact (Straight.internal s 1).toSteady
  · exact (Straight.internal s 1).toSteady.trans (Steady.returnToCaller _)

/-! ### The fetch and the environment -/

theorem Steady.fetch8 (s : State) : Steady 1 s s.fetch8.2 :=
  (Straight.memRead s s.pc).toSteady.trans (Steady.setPC _ _)

theorem Steady.fetchInstr (s : State) : Steady (BitVec.ofNat 8 (instrLength s.fetch8.1)) s s.fetchInstr.2 := by
  rcases instrLength_cases s.fetch8.1 with hl | hl | hl
  · rw [State.fetchInstr_one hl, hl]; exact Steady.fetch8 s
  · rw [State.fetchInstr_two hl, hl]; exact (Steady.fetch8 s).trans (Steady.fetch8 _)
  · rw [State.fetchInstr_three hl, hl]; exact ((Steady.fetch8 s).trans (Steady.fetch8 _)).trans (Steady.fetch8 _)

theorem State.applyMoves_cfg (moves : List EnvMove) (s : State) :
    (s.applyMoves moves).cfg = s.cfg ∧ (s.applyMoves moves).asked = s.asked := by
  induction moves generalizing s with
  | nil => exact ⟨rfl, rfl⟩
  | cons m rest ih =>
    have h := ih (s.applyMove m)
    cases m <;> exact h

theorem State.environment_cfg (s : State) : s.environment.cfg = s.cfg ∧ s.environment.asked = s.asked := by
  unfold State.environment
  split
  · exact ⟨rfl, rfl⟩
  · exact State.applyMoves_cfg _ _

end Sys2Proof.Machine
end

