-- ==== Sys2Proof/Laws/PerInstr.lean ====
section
/-! SUPPORT. The statements about the instructions as syntax, one lemma for each constructor of `Instr`. -/

namespace Sys2Proof.Laws

/-- The encoding of an instruction begins with a byte that alone says how many bytes follow (`30_encoding.md`
R52), and has that many. -/
def EncodeLength.Statement (i : Instr) : Prop :=
  ∃ (first : Byte) (rest : List Byte), encode i = first :: rest ∧ rest.length + 1 = instrLength first

theorem EncodeLength.nop : EncodeLength.Statement .nop := ⟨_, _, rfl, rfl⟩
theorem EncodeLength.ld_BC_d16 (d16 : Word) : EncodeLength.Statement (.ld_BC_d16 d16) := ⟨_, _, rfl, rfl⟩
theorem EncodeLength.ld_mBC_A : EncodeLength.Statement .ld_mBC_A := ⟨_, _, rfl, rfl⟩
theorem EncodeLength.inc_BC : EncodeLength.Statement .inc_BC := ⟨_, _, rfl, rfl⟩
theorem EncodeLength.inc_B : EncodeLength.Statement .inc_B := ⟨_, _, rfl, rfl⟩
theorem EncodeLength.dec_B : EncodeLength.Statement .dec_B := ⟨_, _, rfl, rfl⟩
theorem EncodeLength.ld_B_d8 (d8 : Byte) : EncodeLength.Statement (.ld_B_d8 d8) := ⟨_, _, rfl, rfl⟩
theorem EncodeLength.rlca : EncodeLength.Statement .rlca := ⟨_, _, rfl, rfl⟩
theorem EncodeLength.ld_mA16_SP (a16 : Word) : EncodeLength.Statement (.ld_mA16_SP a16) := ⟨_, _, rfl, rfl⟩
theorem EncodeLength.add_HL_BC : EncodeLength.Statement .add_HL_BC := ⟨_, _, rfl, rfl⟩
theorem EncodeLength.ld_A_mBC : EncodeLength.Statement .ld_A_mBC := ⟨_, _, rfl, rfl⟩
theorem EncodeLength.dec_BC : EncodeLength.Statement .dec_BC := ⟨_, _, rfl, rfl⟩
theorem EncodeLength.inc_C : EncodeLength.Statement .inc_C := ⟨_, _, rfl, rfl⟩
theorem EncodeLength.dec_C : EncodeLength.Statement .dec_C := ⟨_, _, rfl, rfl⟩
theorem EncodeLength.ld_C_d8 (d8 : Byte) : EncodeLength.Statement (.ld_C_d8 d8) := ⟨_, _, rfl, rfl⟩
theorem EncodeLength.rrca : EncodeLength.Statement .rrca := ⟨_, _, rfl, rfl⟩
theorem EncodeLength.stop : EncodeLength.Statement .stop := ⟨_, _, rfl, rfl⟩
theorem EncodeLength.ld_DE_d16 (d16 : Word) : EncodeLength.Statement (.ld_DE_d16 d16) := ⟨_, _, rfl, rfl⟩
theorem EncodeLength.ld_mDE_A : EncodeLength.Statement .ld_mDE_A := ⟨_, _, rfl, rfl⟩
theorem EncodeLength.inc_DE : EncodeLength.Statement .inc_DE := ⟨_, _, rfl, rfl⟩
theorem EncodeLength.inc_D : EncodeLength.Statement .inc_D := ⟨_, _, rfl, rfl⟩
theorem EncodeLength.dec_D : EncodeLength.Statement .dec_D := ⟨_, _, rfl, rfl⟩
theorem EncodeLength.ld_D_d8 (d8 : Byte) : EncodeLength.Statement (.ld_D_d8 d8) := ⟨_, _, rfl, rfl⟩
theorem EncodeLength.rla : EncodeLength.Statement .rla := ⟨_, _, rfl, rfl⟩
theorem EncodeLength.jr_e8 (e8 : Byte) : EncodeLength.Statement (.jr_e8 e8) := ⟨_, _, rfl, rfl⟩
theorem EncodeLength.add_HL_DE : EncodeLength.Statement .add_HL_DE := ⟨_, _, rfl, rfl⟩
theorem EncodeLength.ld_A_mDE : EncodeLength.Statement .ld_A_mDE := ⟨_, _, rfl, rfl⟩
theorem EncodeLength.dec_DE : EncodeLength.Statement .dec_DE := ⟨_, _, rfl, rfl⟩
theorem EncodeLength.inc_E : EncodeLength.Statement .inc_E := ⟨_, _, rfl, rfl⟩
theorem EncodeLength.dec_E : EncodeLength.Statement .dec_E := ⟨_, _, rfl, rfl⟩
theorem EncodeLength.ld_E_d8 (d8 : Byte) : EncodeLength.Statement (.ld_E_d8 d8) := ⟨_, _, rfl, rfl⟩
theorem EncodeLength.rra : EncodeLength.Statement .rra := ⟨_, _, rfl, rfl⟩
theorem EncodeLength.jr_NZ_e8 (e8 : Byte) : EncodeLength.Statement (.jr_NZ_e8 e8) := ⟨_, _, rfl, rfl⟩
theorem EncodeLength.ld_HL_d16 (d16 : Word) : EncodeLength.Statement (.ld_HL_d16 d16) := ⟨_, _, rfl, rfl⟩
theorem EncodeLength.ld_mHLinc_A : EncodeLength.Statement .ld_mHLinc_A := ⟨_, _, rfl, rfl⟩
theorem EncodeLength.inc_HL : EncodeLength.Statement .inc_HL := ⟨_, _, rfl, rfl⟩
theorem EncodeLength.inc_H : EncodeLength.Statement .inc_H := ⟨_, _, rfl, rfl⟩
theorem EncodeLength.dec_H : EncodeLength.Statement .dec_H := ⟨_, _, rfl, rfl⟩
theorem EncodeLength.ld_H_d8 (d8 : Byte) : EncodeLength.Statement (.ld_H_d8 d8) := ⟨_, _, rfl, rfl⟩
theorem EncodeLength.daa : EncodeLength.Statement .daa := ⟨_, _, rfl, rfl⟩
theorem EncodeLength.jr_Z_e8 (e8 : Byte) : EncodeLength.Statement (.jr_Z_e8 e8) := ⟨_, _, rfl, rfl⟩
theorem EncodeLength.add_HL_HL : EncodeLength.Statement .add_HL_HL := ⟨_, _, rfl, rfl⟩
theorem EncodeLength.ld_A_mHLinc : EncodeLength.Statement .ld_A_mHLinc := ⟨_, _, rfl, rfl⟩
theorem EncodeLength.dec_HL : EncodeLength.Statement .dec_HL := ⟨_, _, rfl, rfl⟩
theorem EncodeLength.inc_L : EncodeLength.Statement .inc_L := ⟨_, _, rfl, rfl⟩
theorem EncodeLength.dec_L : EncodeLength.Statement .dec_L := ⟨_, _, rfl, rfl⟩
theorem EncodeLength.ld_L_d8 (d8 : Byte) : EncodeLength.Statement (.ld_L_d8 d8) := ⟨_, _, rfl, rfl⟩
theorem EncodeLength.cpl : EncodeLength.Statement .cpl := ⟨_, _, rfl, rfl⟩
theorem EncodeLength.jr_NC_e8 (e8 : Byte) : EncodeLength.Statement (.jr_NC_e8 e8) := ⟨_, _, rfl, rfl⟩
theorem EncodeLength.ld_SP_d16 (d16 : Word) : EncodeLength.Statement (.ld_SP_d16 d16) := ⟨_, _, rfl, rfl⟩
theorem EncodeLength.ld_mHLdec_A : EncodeLength.Statement .ld_mHLdec_A := ⟨_, _, rfl, rfl⟩
theorem EncodeLength.inc_SP : EncodeLength.Statement .inc_SP := ⟨_, _, rfl, rfl⟩
theorem EncodeLength.inc_mHL : EncodeLength.Statement .inc_mHL := ⟨_, _, rfl, rfl⟩
theorem EncodeLength.dec_mHL : EncodeLength.Statement .dec_mHL := ⟨_, _, rfl, rfl⟩
theorem EncodeLength.ld_mHL_d8 (d8 : Byte) : EncodeLength.Statement (.ld_mHL_d8 d8) := ⟨_, _, rfl, rfl⟩
theorem EncodeLength.scf : EncodeLength.Statement .scf := ⟨_, _, rfl, rfl⟩
theorem EncodeLength.jr_C_e8 (e8 : Byte) : EncodeLength.Statement (.jr_C_e8 e8) := ⟨_, _, rfl, rfl⟩
theorem EncodeLength.add_HL_SP : EncodeLength.Statement .add_HL_SP := ⟨_, _, rfl, rfl⟩
theorem EncodeLength.ld_A_mHLdec : EncodeLength.Statement .ld_A_mHLdec := ⟨_, _, rfl, rfl⟩
theorem EncodeLength.dec_SP : EncodeLength.Statement .dec_SP := ⟨_, _, rfl, rfl⟩
theorem EncodeLength.inc_A : EncodeLength.Statement .inc_A := ⟨_, _, rfl, rfl⟩
theorem EncodeLength.dec_A : EncodeLength.Statement .dec_A := ⟨_, _, rfl, rfl⟩
theorem EncodeLength.ld_A_d8 (d8 : Byte) : EncodeLength.Statement (.ld_A_d8 d8) := ⟨_, _, rfl, rfl⟩
theorem EncodeLength.ccf : EncodeLength.Statement .ccf := ⟨_, _, rfl, rfl⟩
theorem EncodeLength.ld_B_B : EncodeLength.Statement .ld_B_B := ⟨_, _, rfl, rfl⟩
theorem EncodeLength.ld_B_C : EncodeLength.Statement .ld_B_C := ⟨_, _, rfl, rfl⟩
theorem EncodeLength.ld_B_D : EncodeLength.Statement .ld_B_D := ⟨_, _, rfl, rfl⟩
theorem EncodeLength.ld_B_E : EncodeLength.Statement .ld_B_E := ⟨_, _, rfl, rfl⟩
theorem EncodeLength.ld_B_H : EncodeLength.Statement .ld_B_H := ⟨_, _, rfl, rfl⟩
theorem EncodeLength.ld_B_L : EncodeLength.Statement .ld_B_L := ⟨_, _, rfl, rfl⟩
theorem EncodeLength.ld_B_mHL : EncodeLength.Statement .ld_B_mHL := ⟨_, _, rfl, rfl⟩
theorem EncodeLength.ld_B_A : EncodeLength.Statement .ld_B_A := ⟨_, _, rfl, rfl⟩
theorem EncodeLength.ld_C_B : EncodeLength.Statement .ld_C_B := ⟨_, _, rfl, rfl⟩
theorem EncodeLength.ld_C_C : EncodeLength.Statement .ld_C_C := ⟨_, _, rfl, rfl⟩
theorem EncodeLength.ld_C_D : EncodeLength.Statement .ld_C_D := ⟨_, _, rfl, rfl⟩
theorem EncodeLength.ld_C_E : EncodeLength.Statement .ld_C_E := ⟨_, _, rfl, rfl⟩
theorem EncodeLength.ld_C_H : EncodeLength.Statement .ld_C_H := ⟨_, _, rfl, rfl⟩
theorem EncodeLength.ld_C_L : EncodeLength.Statement .ld_C_L := ⟨_, _, rfl, rfl⟩
theorem EncodeLength.ld_C_mHL : EncodeLength.Statement .ld_C_mHL := ⟨_, _, rfl, rfl⟩
theorem EncodeLength.ld_C_A : EncodeLength.Statement .ld_C_A := ⟨_, _, rfl, rfl⟩
theorem EncodeLength.ld_D_B : EncodeLength.Statement .ld_D_B := ⟨_, _, rfl, rfl⟩
theorem EncodeLength.ld_D_C : EncodeLength.Statement .ld_D_C := ⟨_, _, rfl, rfl⟩
theorem EncodeLength.ld_D_D : EncodeLength.Statement .ld_D_D := ⟨_, _, rfl, rfl⟩
theorem EncodeLength.ld_D_E : EncodeLength.Statement .ld_D_E := ⟨_, _, rfl, rfl⟩
theorem EncodeLength.ld_D_H : EncodeLength.Statement .ld_D_H := ⟨_, _, rfl, rfl⟩
theorem EncodeLength.ld_D_L : EncodeLength.Statement .ld_D_L := ⟨_, _, rfl, rfl⟩
theorem EncodeLength.ld_D_mHL : EncodeLength.Statement .ld_D_mHL := ⟨_, _, rfl, rfl⟩
theorem EncodeLength.ld_D_A : EncodeLength.Statement .ld_D_A := ⟨_, _, rfl, rfl⟩
theorem EncodeLength.ld_E_B : EncodeLength.Statement .ld_E_B := ⟨_, _, rfl, rfl⟩
theorem EncodeLength.ld_E_C : EncodeLength.Statement .ld_E_C := ⟨_, _, rfl, rfl⟩
theorem EncodeLength.ld_E_D : EncodeLength.Statement .ld_E_D := ⟨_, _, rfl, rfl⟩
theorem EncodeLength.ld_E_E : EncodeLength.Statement .ld_E_E := ⟨_, _, rfl, rfl⟩
theorem EncodeLength.ld_E_H : EncodeLength.Statement .ld_E_H := ⟨_, _, rfl, rfl⟩
theorem EncodeLength.ld_E_L : EncodeLength.Statement .ld_E_L := ⟨_, _, rfl, rfl⟩
theorem EncodeLength.ld_E_mHL : EncodeLength.Statement .ld_E_mHL := ⟨_, _, rfl, rfl⟩
theorem EncodeLength.ld_E_A : EncodeLength.Statement .ld_E_A := ⟨_, _, rfl, rfl⟩
theorem EncodeLength.ld_H_B : EncodeLength.Statement .ld_H_B := ⟨_, _, rfl, rfl⟩
theorem EncodeLength.ld_H_C : EncodeLength.Statement .ld_H_C := ⟨_, _, rfl, rfl⟩
theorem EncodeLength.ld_H_D : EncodeLength.Statement .ld_H_D := ⟨_, _, rfl, rfl⟩
theorem EncodeLength.ld_H_E : EncodeLength.Statement .ld_H_E := ⟨_, _, rfl, rfl⟩
theorem EncodeLength.ld_H_H : EncodeLength.Statement .ld_H_H := ⟨_, _, rfl, rfl⟩
theorem EncodeLength.ld_H_L : EncodeLength.Statement .ld_H_L := ⟨_, _, rfl, rfl⟩
theorem EncodeLength.ld_H_mHL : EncodeLength.Statement .ld_H_mHL := ⟨_, _, rfl, rfl⟩
theorem EncodeLength.ld_H_A : EncodeLength.Statement .ld_H_A := ⟨_, _, rfl, rfl⟩
theorem EncodeLength.ld_L_B : EncodeLength.Statement .ld_L_B := ⟨_, _, rfl, rfl⟩
theorem EncodeLength.ld_L_C : EncodeLength.Statement .ld_L_C := ⟨_, _, rfl, rfl⟩
theorem EncodeLength.ld_L_D : EncodeLength.Statement .ld_L_D := ⟨_, _, rfl, rfl⟩
theorem EncodeLength.ld_L_E : EncodeLength.Statement .ld_L_E := ⟨_, _, rfl, rfl⟩
theorem EncodeLength.ld_L_H : EncodeLength.Statement .ld_L_H := ⟨_, _, rfl, rfl⟩
theorem EncodeLength.ld_L_L : EncodeLength.Statement .ld_L_L := ⟨_, _, rfl, rfl⟩
theorem EncodeLength.ld_L_mHL : EncodeLength.Statement .ld_L_mHL := ⟨_, _, rfl, rfl⟩
theorem EncodeLength.ld_L_A : EncodeLength.Statement .ld_L_A := ⟨_, _, rfl, rfl⟩
theorem EncodeLength.ld_mHL_B : EncodeLength.Statement .ld_mHL_B := ⟨_, _, rfl, rfl⟩
theorem EncodeLength.ld_mHL_C : EncodeLength.Statement .ld_mHL_C := ⟨_, _, rfl, rfl⟩
theorem EncodeLength.ld_mHL_D : EncodeLength.Statement .ld_mHL_D := ⟨_, _, rfl, rfl⟩
theorem EncodeLength.ld_mHL_E : EncodeLength.Statement .ld_mHL_E := ⟨_, _, rfl, rfl⟩
theorem EncodeLength.ld_mHL_H : EncodeLength.Statement .ld_mHL_H := ⟨_, _, rfl, rfl⟩
theorem EncodeLength.ld_mHL_L : EncodeLength.Statement .ld_mHL_L := ⟨_, _, rfl, rfl⟩
theorem EncodeLength.halt : EncodeLength.Statement .halt := ⟨_, _, rfl, rfl⟩
theorem EncodeLength.ld_mHL_A : EncodeLength.Statement .ld_mHL_A := ⟨_, _, rfl, rfl⟩
theorem EncodeLength.ld_A_B : EncodeLength.Statement .ld_A_B := ⟨_, _, rfl, rfl⟩
theorem EncodeLength.ld_A_C : EncodeLength.Statement .ld_A_C := ⟨_, _, rfl, rfl⟩
theorem EncodeLength.ld_A_D : EncodeLength.Statement .ld_A_D := ⟨_, _, rfl, rfl⟩
theorem EncodeLength.ld_A_E : EncodeLength.Statement .ld_A_E := ⟨_, _, rfl, rfl⟩
theorem EncodeLength.ld_A_H : EncodeLength.Statement .ld_A_H := ⟨_, _, rfl, rfl⟩
theorem EncodeLength.ld_A_L : EncodeLength.Statement .ld_A_L := ⟨_, _, rfl, rfl⟩
theorem EncodeLength.ld_A_mHL : EncodeLength.Statement .ld_A_mHL := ⟨_, _, rfl, rfl⟩
theorem EncodeLength.ld_A_A : EncodeLength.Statement .ld_A_A := ⟨_, _, rfl, rfl⟩
theorem EncodeLength.add_A_B : EncodeLength.Statement .add_A_B := ⟨_, _, rfl, rfl⟩
theorem EncodeLength.add_A_C : EncodeLength.Statement .add_A_C := ⟨_, _, rfl, rfl⟩
theorem EncodeLength.add_A_D : EncodeLength.Statement .add_A_D := ⟨_, _, rfl, rfl⟩
theorem EncodeLength.add_A_E : EncodeLength.Statement .add_A_E := ⟨_, _, rfl, rfl⟩
theorem EncodeLength.add_A_H : EncodeLength.Statement .add_A_H := ⟨_, _, rfl, rfl⟩
theorem EncodeLength.add_A_L : EncodeLength.Statement .add_A_L := ⟨_, _, rfl, rfl⟩
theorem EncodeLength.add_A_mHL : EncodeLength.Statement .add_A_mHL := ⟨_, _, rfl, rfl⟩
theorem EncodeLength.add_A_A : EncodeLength.Statement .add_A_A := ⟨_, _, rfl, rfl⟩
theorem EncodeLength.adc_A_B : EncodeLength.Statement .adc_A_B := ⟨_, _, rfl, rfl⟩
theorem EncodeLength.adc_A_C : EncodeLength.Statement .adc_A_C := ⟨_, _, rfl, rfl⟩
theorem EncodeLength.adc_A_D : EncodeLength.Statement .adc_A_D := ⟨_, _, rfl, rfl⟩
theorem EncodeLength.adc_A_E : EncodeLength.Statement .adc_A_E := ⟨_, _, rfl, rfl⟩
theorem EncodeLength.adc_A_H : EncodeLength.Statement .adc_A_H := ⟨_, _, rfl, rfl⟩
theorem EncodeLength.adc_A_L : EncodeLength.Statement .adc_A_L := ⟨_, _, rfl, rfl⟩
theorem EncodeLength.adc_A_mHL : EncodeLength.Statement .adc_A_mHL := ⟨_, _, rfl, rfl⟩
theorem EncodeLength.adc_A_A : EncodeLength.Statement .adc_A_A := ⟨_, _, rfl, rfl⟩
theorem EncodeLength.sub_A_B : EncodeLength.Statement .sub_A_B := ⟨_, _, rfl, rfl⟩
theorem EncodeLength.sub_A_C : EncodeLength.Statement .sub_A_C := ⟨_, _, rfl, rfl⟩
theorem EncodeLength.sub_A_D : EncodeLength.Statement .sub_A_D := ⟨_, _, rfl, rfl⟩
theorem EncodeLength.sub_A_E : EncodeLength.Statement .sub_A_E := ⟨_, _, rfl, rfl⟩
theorem EncodeLength.sub_A_H : EncodeLength.Statement .sub_A_H := ⟨_, _, rfl, rfl⟩
theorem EncodeLength.sub_A_L : EncodeLength.Statement .sub_A_L := ⟨_, _, rfl, rfl⟩
theorem EncodeLength.sub_A_mHL : EncodeLength.Statement .sub_A_mHL := ⟨_, _, rfl, rfl⟩
theorem EncodeLength.sub_A_A : EncodeLength.Statement .sub_A_A := ⟨_, _, rfl, rfl⟩
theorem EncodeLength.sbc_A_B : EncodeLength.Statement .sbc_A_B := ⟨_, _, rfl, rfl⟩
theorem EncodeLength.sbc_A_C : EncodeLength.Statement .sbc_A_C := ⟨_, _, rfl, rfl⟩
theorem EncodeLength.sbc_A_D : EncodeLength.Statement .sbc_A_D := ⟨_, _, rfl, rfl⟩
theorem EncodeLength.sbc_A_E : EncodeLength.Statement .sbc_A_E := ⟨_, _, rfl, rfl⟩
theorem EncodeLength.sbc_A_H : EncodeLength.Statement .sbc_A_H := ⟨_, _, rfl, rfl⟩
theorem EncodeLength.sbc_A_L : EncodeLength.Statement .sbc_A_L := ⟨_, _, rfl, rfl⟩
theorem EncodeLength.sbc_A_mHL : EncodeLength.Statement .sbc_A_mHL := ⟨_, _, rfl, rfl⟩
theorem EncodeLength.sbc_A_A : EncodeLength.Statement .sbc_A_A := ⟨_, _, rfl, rfl⟩
theorem EncodeLength.and_A_B : EncodeLength.Statement .and_A_B := ⟨_, _, rfl, rfl⟩
theorem EncodeLength.and_A_C : EncodeLength.Statement .and_A_C := ⟨_, _, rfl, rfl⟩
theorem EncodeLength.and_A_D : EncodeLength.Statement .and_A_D := ⟨_, _, rfl, rfl⟩
theorem EncodeLength.and_A_E : EncodeLength.Statement .and_A_E := ⟨_, _, rfl, rfl⟩
theorem EncodeLength.and_A_H : EncodeLength.Statement .and_A_H := ⟨_, _, rfl, rfl⟩
theorem EncodeLength.and_A_L : EncodeLength.Statement .and_A_L := ⟨_, _, rfl, rfl⟩
theorem EncodeLength.and_A_mHL : EncodeLength.Statement .and_A_mHL := ⟨_, _, rfl, rfl⟩
theorem EncodeLength.and_A_A : EncodeLength.Statement .and_A_A := ⟨_, _, rfl, rfl⟩
theorem EncodeLength.xor_A_B : EncodeLength.Statement .xor_A_B := ⟨_, _, rfl, rfl⟩
theorem EncodeLength.xor_A_C : EncodeLength.Statement .xor_A_C := ⟨_, _, rfl, rfl⟩
theorem EncodeLength.xor_A_D : EncodeLength.Statement .xor_A_D := ⟨_, _, rfl, rfl⟩
theorem EncodeLength.xor_A_E : EncodeLength.Statement .xor_A_E := ⟨_, _, rfl, rfl⟩
theorem EncodeLength.xor_A_H : EncodeLength.Statement .xor_A_H := ⟨_, _, rfl, rfl⟩
theorem EncodeLength.xor_A_L : EncodeLength.Statement .xor_A_L := ⟨_, _, rfl, rfl⟩
theorem EncodeLength.xor_A_mHL : EncodeLength.Statement .xor_A_mHL := ⟨_, _, rfl, rfl⟩
theorem EncodeLength.xor_A_A : EncodeLength.Statement .xor_A_A := ⟨_, _, rfl, rfl⟩
theorem EncodeLength.or_A_B : EncodeLength.Statement .or_A_B := ⟨_, _, rfl, rfl⟩
theorem EncodeLength.or_A_C : EncodeLength.Statement .or_A_C := ⟨_, _, rfl, rfl⟩
theorem EncodeLength.or_A_D : EncodeLength.Statement .or_A_D := ⟨_, _, rfl, rfl⟩
theorem EncodeLength.or_A_E : EncodeLength.Statement .or_A_E := ⟨_, _, rfl, rfl⟩
theorem EncodeLength.or_A_H : EncodeLength.Statement .or_A_H := ⟨_, _, rfl, rfl⟩
theorem EncodeLength.or_A_L : EncodeLength.Statement .or_A_L := ⟨_, _, rfl, rfl⟩
theorem EncodeLength.or_A_mHL : EncodeLength.Statement .or_A_mHL := ⟨_, _, rfl, rfl⟩
theorem EncodeLength.or_A_A : EncodeLength.Statement .or_A_A := ⟨_, _, rfl, rfl⟩
theorem EncodeLength.cp_A_B : EncodeLength.Statement .cp_A_B := ⟨_, _, rfl, rfl⟩
theorem EncodeLength.cp_A_C : EncodeLength.Statement .cp_A_C := ⟨_, _, rfl, rfl⟩
theorem EncodeLength.cp_A_D : EncodeLength.Statement .cp_A_D := ⟨_, _, rfl, rfl⟩
theorem EncodeLength.cp_A_E : EncodeLength.Statement .cp_A_E := ⟨_, _, rfl, rfl⟩
theorem EncodeLength.cp_A_H : EncodeLength.Statement .cp_A_H := ⟨_, _, rfl, rfl⟩
theorem EncodeLength.cp_A_L : EncodeLength.Statement .cp_A_L := ⟨_, _, rfl, rfl⟩
theorem EncodeLength.cp_A_mHL : EncodeLength.Statement .cp_A_mHL := ⟨_, _, rfl, rfl⟩
theorem EncodeLength.cp_A_A : EncodeLength.Statement .cp_A_A := ⟨_, _, rfl, rfl⟩
theorem EncodeLength.ret_NZ : EncodeLength.Statement .ret_NZ := ⟨_, _, rfl, rfl⟩
theorem EncodeLength.pop_BC : EncodeLength.Statement .pop_BC := ⟨_, _, rfl, rfl⟩
theorem EncodeLength.jp_NZ_a16 (a16 : Word) : EncodeLength.Statement (.jp_NZ_a16 a16) := ⟨_, _, rfl, rfl⟩
theorem EncodeLength.jp_a16 (a16 : Word) : EncodeLength.Statement (.jp_a16 a16) := ⟨_, _, rfl, rfl⟩
theorem EncodeLength.call_NZ_a16 (a16 : Word) : EncodeLength.Statement (.call_NZ_a16 a16) := ⟨_, _, rfl, rfl⟩
theorem EncodeLength.push_BC : EncodeLength.Statement .push_BC := ⟨_, _, rfl, rfl⟩
theorem EncodeLength.add_A_d8 (d8 : Byte) : EncodeLength.Statement (.add_A_d8 d8) := ⟨_, _, rfl, rfl⟩
theorem EncodeLength.rst_00 : EncodeLength.Statement .rst_00 := ⟨_, _, rfl, rfl⟩
theorem EncodeLength.ret_Z : EncodeLength.Statement .ret_Z := ⟨_, _, rfl, rfl⟩
theorem EncodeLength.ret : EncodeLength.Statement .ret := ⟨_, _, rfl, rfl⟩
theorem EncodeLength.jp_Z_a16 (a16 : Word) : EncodeLength.Statement (.jp_Z_a16 a16) := ⟨_, _, rfl, rfl⟩
theorem EncodeLength.call_Z_a16 (a16 : Word) : EncodeLength.Statement (.call_Z_a16 a16) := ⟨_, _, rfl, rfl⟩
theorem EncodeLength.call_a16 (a16 : Word) : EncodeLength.Statement (.call_a16 a16) := ⟨_, _, rfl, rfl⟩
theorem EncodeLength.adc_A_d8 (d8 : Byte) : EncodeLength.Statement (.adc_A_d8 d8) := ⟨_, _, rfl, rfl⟩
theorem EncodeLength.rst_08 : EncodeLength.Statement .rst_08 := ⟨_, _, rfl, rfl⟩
theorem EncodeLength.ret_NC : EncodeLength.Statement .ret_NC := ⟨_, _, rfl, rfl⟩
theorem EncodeLength.pop_DE : EncodeLength.Statement .pop_DE := ⟨_, _, rfl, rfl⟩
theorem EncodeLength.jp_NC_a16 (a16 : Word) : EncodeLength.Statement (.jp_NC_a16 a16) := ⟨_, _, rfl, rfl⟩
theorem EncodeLength.undef_D3 : EncodeLength.Statement .undef_D3 := ⟨_, _, rfl, rfl⟩
theorem EncodeLength.call_NC_a16 (a16 : Word) : EncodeLength.Statement (.call_NC_a16 a16) := ⟨_, _, rfl, rfl⟩
theorem EncodeLength.push_DE : EncodeLength.Statement .push_DE := ⟨_, _, rfl, rfl⟩
theorem EncodeLength.sub_A_d8 (d8 : Byte) : EncodeLength.Statement (.sub_A_d8 d8) := ⟨_, _, rfl, rfl⟩
theorem EncodeLength.rst_10 : EncodeLength.Statement .rst_10 := ⟨_, _, rfl, rfl⟩
theorem EncodeLength.ret_C : EncodeLength.Statement .ret_C := ⟨_, _, rfl, rfl⟩
theorem EncodeLength.reti : EncodeLength.Statement .reti := ⟨_, _, rfl, rfl⟩
theorem EncodeLength.jp_C_a16 (a16 : Word) : EncodeLength.Statement (.jp_C_a16 a16) := ⟨_, _, rfl, rfl⟩
theorem EncodeLength.undef_DB : EncodeLength.Statement .undef_DB := ⟨_, _, rfl, rfl⟩
theorem EncodeLength.call_C_a16 (a16 : Word) : EncodeLength.Statement (.call_C_a16 a16) := ⟨_, _, rfl, rfl⟩
theorem EncodeLength.undef_DD : EncodeLength.Statement .undef_DD := ⟨_, _, rfl, rfl⟩
theorem EncodeLength.sbc_A_d8 (d8 : Byte) : EncodeLength.Statement (.sbc_A_d8 d8) := ⟨_, _, rfl, rfl⟩
theorem EncodeLength.rst_18 : EncodeLength.Statement .rst_18 := ⟨_, _, rfl, rfl⟩
theorem EncodeLength.ldh_mA8_A (a8 : Byte) : EncodeLength.Statement (.ldh_mA8_A a8) := ⟨_, _, rfl, rfl⟩
theorem EncodeLength.pop_HL : EncodeLength.Statement .pop_HL := ⟨_, _, rfl, rfl⟩
theorem EncodeLength.ld_mC_A : EncodeLength.Statement .ld_mC_A := ⟨_, _, rfl, rfl⟩
theorem EncodeLength.undef_E3 : EncodeLength.Statement .undef_E3 := ⟨_, _, rfl, rfl⟩
theorem EncodeLength.undef_E4 : EncodeLength.Statement .undef_E4 := ⟨_, _, rfl, rfl⟩
theorem EncodeLength.push_HL : EncodeLength.Statement .push_HL := ⟨_, _, rfl, rfl⟩
theorem EncodeLength.and_A_d8 (d8 : Byte) : EncodeLength.Statement (.and_A_d8 d8) := ⟨_, _, rfl, rfl⟩
theorem EncodeLength.rst_20 : EncodeLength.Statement .rst_20 := ⟨_, _, rfl, rfl⟩
theorem EncodeLength.add_SP_e8 (e8 : Byte) : EncodeLength.Statement (.add_SP_e8 e8) := ⟨_, _, rfl, rfl⟩
theorem EncodeLength.jp_HL : EncodeLength.Statement .jp_HL := ⟨_, _, rfl, rfl⟩
theorem EncodeLength.ld_mA16_A (a16 : Word) : EncodeLength.Statement (.ld_mA16_A a16) := ⟨_, _, rfl, rfl⟩
theorem EncodeLength.undef_EB : EncodeLength.Statement .undef_EB := ⟨_, _, rfl, rfl⟩
theorem EncodeLength.undef_EC : EncodeLength.Statement .undef_EC := ⟨_, _, rfl, rfl⟩
theorem EncodeLength.undef_ED : EncodeLength.Statement .undef_ED := ⟨_, _, rfl, rfl⟩
theorem EncodeLength.xor_A_d8 (d8 : Byte) : EncodeLength.Statement (.xor_A_d8 d8) := ⟨_, _, rfl, rfl⟩
theorem EncodeLength.rst_28 : EncodeLength.Statement .rst_28 := ⟨_, _, rfl, rfl⟩
theorem EncodeLength.ldh_A_mA8 (a8 : Byte) : EncodeLength.Statement (.ldh_A_mA8 a8) := ⟨_, _, rfl, rfl⟩
theorem EncodeLength.pop_AF : EncodeLength.Statement .pop_AF := ⟨_, _, rfl, rfl⟩
theorem EncodeLength.ld_A_mC : EncodeLength.Statement .ld_A_mC := ⟨_, _, rfl, rfl⟩
theorem EncodeLength.di : EncodeLength.Statement .di := ⟨_, _, rfl, rfl⟩
theorem EncodeLength.undef_F4 : EncodeLength.Statement .undef_F4 := ⟨_, _, rfl, rfl⟩
theorem EncodeLength.push_AF : EncodeLength.Statement .push_AF := ⟨_, _, rfl, rfl⟩
theorem EncodeLength.or_A_d8 (d8 : Byte) : EncodeLength.Statement (.or_A_d8 d8) := ⟨_, _, rfl, rfl⟩
theorem EncodeLength.rst_30 : EncodeLength.Statement .rst_30 := ⟨_, _, rfl, rfl⟩
theorem EncodeLength.ld_HL_SPe8 (e8 : Byte) : EncodeLength.Statement (.ld_HL_SPe8 e8) := ⟨_, _, rfl, rfl⟩
theorem EncodeLength.ld_SP_HL : EncodeLength.Statement .ld_SP_HL := ⟨_, _, rfl, rfl⟩
theorem EncodeLength.ld_A_mA16 (a16 : Word) : EncodeLength.Statement (.ld_A_mA16 a16) := ⟨_, _, rfl, rfl⟩
theorem EncodeLength.ei : EncodeLength.Statement .ei := ⟨_, _, rfl, rfl⟩
theorem EncodeLength.undef_FC : EncodeLength.Statement .undef_FC := ⟨_, _, rfl, rfl⟩
theorem EncodeLength.undef_FD : EncodeLength.Statement .undef_FD := ⟨_, _, rfl, rfl⟩
theorem EncodeLength.cp_A_d8 (d8 : Byte) : EncodeLength.Statement (.cp_A_d8 d8) := ⟨_, _, rfl, rfl⟩
theorem EncodeLength.rst_38 : EncodeLength.Statement .rst_38 := ⟨_, _, rfl, rfl⟩
theorem EncodeLength.rlc_B : EncodeLength.Statement .rlc_B := ⟨_, _, rfl, rfl⟩
theorem EncodeLength.rlc_C : EncodeLength.Statement .rlc_C := ⟨_, _, rfl, rfl⟩
theorem EncodeLength.rlc_D : EncodeLength.Statement .rlc_D := ⟨_, _, rfl, rfl⟩
theorem EncodeLength.rlc_E : EncodeLength.Statement .rlc_E := ⟨_, _, rfl, rfl⟩
theorem EncodeLength.rlc_H : EncodeLength.Statement .rlc_H := ⟨_, _, rfl, rfl⟩
theorem EncodeLength.rlc_L : EncodeLength.Statement .rlc_L := ⟨_, _, rfl, rfl⟩
theorem EncodeLength.rlc_mHL : EncodeLength.Statement .rlc_mHL := ⟨_, _, rfl, rfl⟩
theorem EncodeLength.rlc_A : EncodeLength.Statement .rlc_A := ⟨_, _, rfl, rfl⟩
theorem EncodeLength.rrc_B : EncodeLength.Statement .rrc_B := ⟨_, _, rfl, rfl⟩
theorem EncodeLength.rrc_C : EncodeLength.Statement .rrc_C := ⟨_, _, rfl, rfl⟩
theorem EncodeLength.rrc_D : EncodeLength.Statement .rrc_D := ⟨_, _, rfl, rfl⟩
theorem EncodeLength.rrc_E : EncodeLength.Statement .rrc_E := ⟨_, _, rfl, rfl⟩
theorem EncodeLength.rrc_H : EncodeLength.Statement .rrc_H := ⟨_, _, rfl, rfl⟩
theorem EncodeLength.rrc_L : EncodeLength.Statement .rrc_L := ⟨_, _, rfl, rfl⟩
theorem EncodeLength.rrc_mHL : EncodeLength.Statement .rrc_mHL := ⟨_, _, rfl, rfl⟩
theorem EncodeLength.rrc_A : EncodeLength.Statement .rrc_A := ⟨_, _, rfl, rfl⟩
theorem EncodeLength.rl_B : EncodeLength.Statement .rl_B := ⟨_, _, rfl, rfl⟩
theorem EncodeLength.rl_C : EncodeLength.Statement .rl_C := ⟨_, _, rfl, rfl⟩
theorem EncodeLength.rl_D : EncodeLength.Statement .rl_D := ⟨_, _, rfl, rfl⟩
theorem EncodeLength.rl_E : EncodeLength.Statement .rl_E := ⟨_, _, rfl, rfl⟩
theorem EncodeLength.rl_H : EncodeLength.Statement .rl_H := ⟨_, _, rfl, rfl⟩
theorem EncodeLength.rl_L : EncodeLength.Statement .rl_L := ⟨_, _, rfl, rfl⟩
theorem EncodeLength.rl_mHL : EncodeLength.Statement .rl_mHL := ⟨_, _, rfl, rfl⟩
theorem EncodeLength.rl_A : EncodeLength.Statement .rl_A := ⟨_, _, rfl, rfl⟩
theorem EncodeLength.rr_B : EncodeLength.Statement .rr_B := ⟨_, _, rfl, rfl⟩
theorem EncodeLength.rr_C : EncodeLength.Statement .rr_C := ⟨_, _, rfl, rfl⟩
theorem EncodeLength.rr_D : EncodeLength.Statement .rr_D := ⟨_, _, rfl, rfl⟩
theorem EncodeLength.rr_E : EncodeLength.Statement .rr_E := ⟨_, _, rfl, rfl⟩
theorem EncodeLength.rr_H : EncodeLength.Statement .rr_H := ⟨_, _, rfl, rfl⟩
theorem EncodeLength.rr_L : EncodeLength.Statement .rr_L := ⟨_, _, rfl, rfl⟩
theorem EncodeLength.rr_mHL : EncodeLength.Statement .rr_mHL := ⟨_, _, rfl, rfl⟩
theorem EncodeLength.rr_A : EncodeLength.Statement .rr_A := ⟨_, _, rfl, rfl⟩
theorem EncodeLength.sla_B : EncodeLength.Statement .sla_B := ⟨_, _, rfl, rfl⟩
theorem EncodeLength.sla_C : EncodeLength.Statement .sla_C := ⟨_, _, rfl, rfl⟩
theorem EncodeLength.sla_D : EncodeLength.Statement .sla_D := ⟨_, _, rfl, rfl⟩
theorem EncodeLength.sla_E : EncodeLength.Statement .sla_E := ⟨_, _, rfl, rfl⟩
theorem EncodeLength.sla_H : EncodeLength.Statement .sla_H := ⟨_, _, rfl, rfl⟩
theorem EncodeLength.sla_L : EncodeLength.Statement .sla_L := ⟨_, _, rfl, rfl⟩
theorem EncodeLength.sla_mHL : EncodeLength.Statement .sla_mHL := ⟨_, _, rfl, rfl⟩
theorem EncodeLength.sla_A : EncodeLength.Statement .sla_A := ⟨_, _, rfl, rfl⟩
theorem EncodeLength.sra_B : EncodeLength.Statement .sra_B := ⟨_, _, rfl, rfl⟩
theorem EncodeLength.sra_C : EncodeLength.Statement .sra_C := ⟨_, _, rfl, rfl⟩
theorem EncodeLength.sra_D : EncodeLength.Statement .sra_D := ⟨_, _, rfl, rfl⟩
theorem EncodeLength.sra_E : EncodeLength.Statement .sra_E := ⟨_, _, rfl, rfl⟩
theorem EncodeLength.sra_H : EncodeLength.Statement .sra_H := ⟨_, _, rfl, rfl⟩
theorem EncodeLength.sra_L : EncodeLength.Statement .sra_L := ⟨_, _, rfl, rfl⟩
theorem EncodeLength.sra_mHL : EncodeLength.Statement .sra_mHL := ⟨_, _, rfl, rfl⟩
theorem EncodeLength.sra_A : EncodeLength.Statement .sra_A := ⟨_, _, rfl, rfl⟩
theorem EncodeLength.swap_B : EncodeLength.Statement .swap_B := ⟨_, _, rfl, rfl⟩
theorem EncodeLength.swap_C : EncodeLength.Statement .swap_C := ⟨_, _, rfl, rfl⟩
theorem EncodeLength.swap_D : EncodeLength.Statement .swap_D := ⟨_, _, rfl, rfl⟩
theorem EncodeLength.swap_E : EncodeLength.Statement .swap_E := ⟨_, _, rfl, rfl⟩
theorem EncodeLength.swap_H : EncodeLength.Statement .swap_H := ⟨_, _, rfl, rfl⟩
theorem EncodeLength.swap_L : EncodeLength.Statement .swap_L := ⟨_, _, rfl, rfl⟩
theorem EncodeLength.swap_mHL : EncodeLength.Statement .swap_mHL := ⟨_, _, rfl, rfl⟩
theorem EncodeLength.swap_A : EncodeLength.Statement .swap_A := ⟨_, _, rfl, rfl⟩
theorem EncodeLength.srl_B : EncodeLength.Statement .srl_B := ⟨_, _, rfl, rfl⟩
theorem EncodeLength.srl_C : EncodeLength.Statement .srl_C := ⟨_, _, rfl, rfl⟩
theorem EncodeLength.srl_D : EncodeLength.Statement .srl_D := ⟨_, _, rfl, rfl⟩
theorem EncodeLength.srl_E : EncodeLength.Statement .srl_E := ⟨_, _, rfl, rfl⟩
theorem EncodeLength.srl_H : EncodeLength.Statement .srl_H := ⟨_, _, rfl, rfl⟩
theorem EncodeLength.srl_L : EncodeLength.Statement .srl_L := ⟨_, _, rfl, rfl⟩
theorem EncodeLength.srl_mHL : EncodeLength.Statement .srl_mHL := ⟨_, _, rfl, rfl⟩
theorem EncodeLength.srl_A : EncodeLength.Statement .srl_A := ⟨_, _, rfl, rfl⟩
theorem EncodeLength.bit_0_B : EncodeLength.Statement .bit_0_B := ⟨_, _, rfl, rfl⟩
theorem EncodeLength.bit_0_C : EncodeLength.Statement .bit_0_C := ⟨_, _, rfl, rfl⟩
theorem EncodeLength.bit_0_D : EncodeLength.Statement .bit_0_D := ⟨_, _, rfl, rfl⟩
theorem EncodeLength.bit_0_E : EncodeLength.Statement .bit_0_E := ⟨_, _, rfl, rfl⟩
theorem EncodeLength.bit_0_H : EncodeLength.Statement .bit_0_H := ⟨_, _, rfl, rfl⟩
theorem EncodeLength.bit_0_L : EncodeLength.Statement .bit_0_L := ⟨_, _, rfl, rfl⟩
theorem EncodeLength.bit_0_mHL : EncodeLength.Statement .bit_0_mHL := ⟨_, _, rfl, rfl⟩
theorem EncodeLength.bit_0_A : EncodeLength.Statement .bit_0_A := ⟨_, _, rfl, rfl⟩
theorem EncodeLength.bit_1_B : EncodeLength.Statement .bit_1_B := ⟨_, _, rfl, rfl⟩
theorem EncodeLength.bit_1_C : EncodeLength.Statement .bit_1_C := ⟨_, _, rfl, rfl⟩
theorem EncodeLength.bit_1_D : EncodeLength.Statement .bit_1_D := ⟨_, _, rfl, rfl⟩
theorem EncodeLength.bit_1_E : EncodeLength.Statement .bit_1_E := ⟨_, _, rfl, rfl⟩
theorem EncodeLength.bit_1_H : EncodeLength.Statement .bit_1_H := ⟨_, _, rfl, rfl⟩
theorem EncodeLength.bit_1_L : EncodeLength.Statement .bit_1_L := ⟨_, _, rfl, rfl⟩
theorem EncodeLength.bit_1_mHL : EncodeLength.Statement .bit_1_mHL := ⟨_, _, rfl, rfl⟩
theorem EncodeLength.bit_1_A : EncodeLength.Statement .bit_1_A := ⟨_, _, rfl, rfl⟩
theorem EncodeLength.bit_2_B : EncodeLength.Statement .bit_2_B := ⟨_, _, rfl, rfl⟩
theorem EncodeLength.bit_2_C : EncodeLength.Statement .bit_2_C := ⟨_, _, rfl, rfl⟩
theorem EncodeLength.bit_2_D : EncodeLength.Statement .bit_2_D := ⟨_, _, rfl, rfl⟩
theorem EncodeLength.bit_2_E : EncodeLength.Statement .bit_2_E := ⟨_, _, rfl, rfl⟩
theorem EncodeLength.bit_2_H : EncodeLength.Statement .bit_2_H := ⟨_, _, rfl, rfl⟩
theorem EncodeLength.bit_2_L : EncodeLength.Statement .bit_2_L := ⟨_, _, rfl, rfl⟩
theorem EncodeLength.bit_2_mHL : EncodeLength.Statement .bit_2_mHL := ⟨_, _, rfl, rfl⟩
theorem EncodeLength.bit_2_A : EncodeLength.Statement .bit_2_A := ⟨_, _, rfl, rfl⟩
theorem EncodeLength.bit_3_B : EncodeLength.Statement .bit_3_B := ⟨_, _, rfl, rfl⟩
theorem EncodeLength.bit_3_C : EncodeLength.Statement .bit_3_C := ⟨_, _, rfl, rfl⟩
theorem EncodeLength.bit_3_D : EncodeLength.Statement .bit_3_D := ⟨_, _, rfl, rfl⟩
theorem EncodeLength.bit_3_E : EncodeLength.Statement .bit_3_E := ⟨_, _, rfl, rfl⟩
theorem EncodeLength.bit_3_H : EncodeLength.Statement .bit_3_H := ⟨_, _, rfl, rfl⟩
theorem EncodeLength.bit_3_L : EncodeLength.Statement .bit_3_L := ⟨_, _, rfl, rfl⟩
theorem EncodeLength.bit_3_mHL : EncodeLength.Statement .bit_3_mHL := ⟨_, _, rfl, rfl⟩
theorem EncodeLength.bit_3_A : EncodeLength.Statement .bit_3_A := ⟨_, _, rfl, rfl⟩
theorem EncodeLength.bit_4_B : EncodeLength.Statement .bit_4_B := ⟨_, _, rfl, rfl⟩
theorem EncodeLength.bit_4_C : EncodeLength.Statement .bit_4_C := ⟨_, _, rfl, rfl⟩
theorem EncodeLength.bit_4_D : EncodeLength.Statement .bit_4_D := ⟨_, _, rfl, rfl⟩
theorem EncodeLength.bit_4_E : EncodeLength.Statement .bit_4_E := ⟨_, _, rfl, rfl⟩
theorem EncodeLength.bit_4_H : EncodeLength.Statement .bit_4_H := ⟨_, _, rfl, rfl⟩
theorem EncodeLength.bit_4_L : EncodeLength.Statement .bit_4_L := ⟨_, _, rfl, rfl⟩
theorem EncodeLength.bit_4_mHL : EncodeLength.Statement .bit_4_mHL := ⟨_, _, rfl, rfl⟩
theorem EncodeLength.bit_4_A : EncodeLength.Statement .bit_4_A := ⟨_, _, rfl, rfl⟩
theorem EncodeLength.bit_5_B : EncodeLength.Statement .bit_5_B := ⟨_, _, rfl, rfl⟩
theorem EncodeLength.bit_5_C : EncodeLength.Statement .bit_5_C := ⟨_, _, rfl, rfl⟩
theorem EncodeLength.bit_5_D : EncodeLength.Statement .bit_5_D := ⟨_, _, rfl, rfl⟩
theorem EncodeLength.bit_5_E : EncodeLength.Statement .bit_5_E := ⟨_, _, rfl, rfl⟩
theorem EncodeLength.bit_5_H : EncodeLength.Statement .bit_5_H := ⟨_, _, rfl, rfl⟩
theorem EncodeLength.bit_5_L : EncodeLength.Statement .bit_5_L := ⟨_, _, rfl, rfl⟩
theorem EncodeLength.bit_5_mHL : EncodeLength.Statement .bit_5_mHL := ⟨_, _, rfl, rfl⟩
theorem EncodeLength.bit_5_A : EncodeLength.Statement .bit_5_A := ⟨_, _, rfl, rfl⟩
theorem EncodeLength.bit_6_B : EncodeLength.Statement .bit_6_B := ⟨_, _, rfl, rfl⟩
theorem EncodeLength.bit_6_C : EncodeLength.Statement .bit_6_C := ⟨_, _, rfl, rfl⟩
theorem EncodeLength.bit_6_D : EncodeLength.Statement .bit_6_D := ⟨_, _, rfl, rfl⟩
theorem EncodeLength.bit_6_E : EncodeLength.Statement .bit_6_E := ⟨_, _, rfl, rfl⟩
theorem EncodeLength.bit_6_H : EncodeLength.Statement .bit_6_H := ⟨_, _, rfl, rfl⟩
theorem EncodeLength.bit_6_L : EncodeLength.Statement .bit_6_L := ⟨_, _, rfl, rfl⟩
theorem EncodeLength.bit_6_mHL : EncodeLength.Statement .bit_6_mHL := ⟨_, _, rfl, rfl⟩
theorem EncodeLength.bit_6_A : EncodeLength.Statement .bit_6_A := ⟨_, _, rfl, rfl⟩
theorem EncodeLength.bit_7_B : EncodeLength.Statement .bit_7_B := ⟨_, _, rfl, rfl⟩
theorem EncodeLength.bit_7_C : EncodeLength.Statement .bit_7_C := ⟨_, _, rfl, rfl⟩
theorem EncodeLength.bit_7_D : EncodeLength.Statement .bit_7_D := ⟨_, _, rfl, rfl⟩
theorem EncodeLength.bit_7_E : EncodeLength.Statement .bit_7_E := ⟨_, _, rfl, rfl⟩
theorem EncodeLength.bit_7_H : EncodeLength.Statement .bit_7_H := ⟨_, _, rfl, rfl⟩
theorem EncodeLength.bit_7_L : EncodeLength.Statement .bit_7_L := ⟨_, _, rfl, rfl⟩
theorem EncodeLength.bit_7_mHL : EncodeLength.Statement .bit_7_mHL := ⟨_, _, rfl, rfl⟩
theorem EncodeLength.bit_7_A : EncodeLength.Statement .bit_7_A := ⟨_, _, rfl, rfl⟩
theorem EncodeLength.res_0_B : EncodeLength.Statement .res_0_B := ⟨_, _, rfl, rfl⟩
theorem EncodeLength.res_0_C : EncodeLength.Statement .res_0_C := ⟨_, _, rfl, rfl⟩
theorem EncodeLength.res_0_D : EncodeLength.Statement .res_0_D := ⟨_, _, rfl, rfl⟩
theorem EncodeLength.res_0_E : EncodeLength.Statement .res_0_E := ⟨_, _, rfl, rfl⟩
theorem EncodeLength.res_0_H : EncodeLength.Statement .res_0_H := ⟨_, _, rfl, rfl⟩
theorem EncodeLength.res_0_L : EncodeLength.Statement .res_0_L := ⟨_, _, rfl, rfl⟩
theorem EncodeLength.res_0_mHL : EncodeLength.Statement .res_0_mHL := ⟨_, _, rfl, rfl⟩
theorem EncodeLength.res_0_A : EncodeLength.Statement .res_0_A := ⟨_, _, rfl, rfl⟩
theorem EncodeLength.res_1_B : EncodeLength.Statement .res_1_B := ⟨_, _, rfl, rfl⟩
theorem EncodeLength.res_1_C : EncodeLength.Statement .res_1_C := ⟨_, _, rfl, rfl⟩
theorem EncodeLength.res_1_D : EncodeLength.Statement .res_1_D := ⟨_, _, rfl, rfl⟩
theorem EncodeLength.res_1_E : EncodeLength.Statement .res_1_E := ⟨_, _, rfl, rfl⟩
theorem EncodeLength.res_1_H : EncodeLength.Statement .res_1_H := ⟨_, _, rfl, rfl⟩
theorem EncodeLength.res_1_L : EncodeLength.Statement .res_1_L := ⟨_, _, rfl, rfl⟩
theorem EncodeLength.res_1_mHL : EncodeLength.Statement .res_1_mHL := ⟨_, _, rfl, rfl⟩
theorem EncodeLength.res_1_A : EncodeLength.Statement .res_1_A := ⟨_, _, rfl, rfl⟩
theorem EncodeLength.res_2_B : EncodeLength.Statement .res_2_B := ⟨_, _, rfl, rfl⟩
theorem EncodeLength.res_2_C : EncodeLength.Statement .res_2_C := ⟨_, _, rfl, rfl⟩
theorem EncodeLength.res_2_D : EncodeLength.Statement .res_2_D := ⟨_, _, rfl, rfl⟩
theorem EncodeLength.res_2_E : EncodeLength.Statement .res_2_E := ⟨_, _, rfl, rfl⟩
theorem EncodeLength.res_2_H : EncodeLength.Statement .res_2_H := ⟨_, _, rfl, rfl⟩
theorem EncodeLength.res_2_L : EncodeLength.Statement .res_2_L := ⟨_, _, rfl, rfl⟩
theorem EncodeLength.res_2_mHL : EncodeLength.Statement .res_2_mHL := ⟨_, _, rfl, rfl⟩
theorem EncodeLength.res_2_A : EncodeLength.Statement .res_2_A := ⟨_, _, rfl, rfl⟩
theorem EncodeLength.res_3_B : EncodeLength.Statement .res_3_B := ⟨_, _, rfl, rfl⟩
theorem EncodeLength.res_3_C : EncodeLength.Statement .res_3_C := ⟨_, _, rfl, rfl⟩
theorem EncodeLength.res_3_D : EncodeLength.Statement .res_3_D := ⟨_, _, rfl, rfl⟩
theorem EncodeLength.res_3_E : EncodeLength.Statement .res_3_E := ⟨_, _, rfl, rfl⟩
theorem EncodeLength.res_3_H : EncodeLength.Statement .res_3_H := ⟨_, _, rfl, rfl⟩
theorem EncodeLength.res_3_L : EncodeLength.Statement .res_3_L := ⟨_, _, rfl, rfl⟩
theorem EncodeLength.res_3_mHL : EncodeLength.Statement .res_3_mHL := ⟨_, _, rfl, rfl⟩
theorem EncodeLength.res_3_A : EncodeLength.Statement .res_3_A := ⟨_, _, rfl, rfl⟩
theorem EncodeLength.res_4_B : EncodeLength.Statement .res_4_B := ⟨_, _, rfl, rfl⟩
theorem EncodeLength.res_4_C : EncodeLength.Statement .res_4_C := ⟨_, _, rfl, rfl⟩
theorem EncodeLength.res_4_D : EncodeLength.Statement .res_4_D := ⟨_, _, rfl, rfl⟩
theorem EncodeLength.res_4_E : EncodeLength.Statement .res_4_E := ⟨_, _, rfl, rfl⟩
theorem EncodeLength.res_4_H : EncodeLength.Statement .res_4_H := ⟨_, _, rfl, rfl⟩
theorem EncodeLength.res_4_L : EncodeLength.Statement .res_4_L := ⟨_, _, rfl, rfl⟩
theorem EncodeLength.res_4_mHL : EncodeLength.Statement .res_4_mHL := ⟨_, _, rfl, rfl⟩
theorem EncodeLength.res_4_A : EncodeLength.Statement .res_4_A := ⟨_, _, rfl, rfl⟩
theorem EncodeLength.res_5_B : EncodeLength.Statement .res_5_B := ⟨_, _, rfl, rfl⟩
theorem EncodeLength.res_5_C : EncodeLength.Statement .res_5_C := ⟨_, _, rfl, rfl⟩
theorem EncodeLength.res_5_D : EncodeLength.Statement .res_5_D := ⟨_, _, rfl, rfl⟩
theorem EncodeLength.res_5_E : EncodeLength.Statement .res_5_E := ⟨_, _, rfl, rfl⟩
theorem EncodeLength.res_5_H : EncodeLength.Statement .res_5_H := ⟨_, _, rfl, rfl⟩
theorem EncodeLength.res_5_L : EncodeLength.Statement .res_5_L := ⟨_, _, rfl, rfl⟩
theorem EncodeLength.res_5_mHL : EncodeLength.Statement .res_5_mHL := ⟨_, _, rfl, rfl⟩
theorem EncodeLength.res_5_A : EncodeLength.Statement .res_5_A := ⟨_, _, rfl, rfl⟩
theorem EncodeLength.res_6_B : EncodeLength.Statement .res_6_B := ⟨_, _, rfl, rfl⟩
theorem EncodeLength.res_6_C : EncodeLength.Statement .res_6_C := ⟨_, _, rfl, rfl⟩
theorem EncodeLength.res_6_D : EncodeLength.Statement .res_6_D := ⟨_, _, rfl, rfl⟩
theorem EncodeLength.res_6_E : EncodeLength.Statement .res_6_E := ⟨_, _, rfl, rfl⟩
theorem EncodeLength.res_6_H : EncodeLength.Statement .res_6_H := ⟨_, _, rfl, rfl⟩
theorem EncodeLength.res_6_L : EncodeLength.Statement .res_6_L := ⟨_, _, rfl, rfl⟩
theorem EncodeLength.res_6_mHL : EncodeLength.Statement .res_6_mHL := ⟨_, _, rfl, rfl⟩
theorem EncodeLength.res_6_A : EncodeLength.Statement .res_6_A := ⟨_, _, rfl, rfl⟩
theorem EncodeLength.res_7_B : EncodeLength.Statement .res_7_B := ⟨_, _, rfl, rfl⟩
theorem EncodeLength.res_7_C : EncodeLength.Statement .res_7_C := ⟨_, _, rfl, rfl⟩
theorem EncodeLength.res_7_D : EncodeLength.Statement .res_7_D := ⟨_, _, rfl, rfl⟩
theorem EncodeLength.res_7_E : EncodeLength.Statement .res_7_E := ⟨_, _, rfl, rfl⟩
theorem EncodeLength.res_7_H : EncodeLength.Statement .res_7_H := ⟨_, _, rfl, rfl⟩
theorem EncodeLength.res_7_L : EncodeLength.Statement .res_7_L := ⟨_, _, rfl, rfl⟩
theorem EncodeLength.res_7_mHL : EncodeLength.Statement .res_7_mHL := ⟨_, _, rfl, rfl⟩
theorem EncodeLength.res_7_A : EncodeLength.Statement .res_7_A := ⟨_, _, rfl, rfl⟩
theorem EncodeLength.set_0_B : EncodeLength.Statement .set_0_B := ⟨_, _, rfl, rfl⟩
theorem EncodeLength.set_0_C : EncodeLength.Statement .set_0_C := ⟨_, _, rfl, rfl⟩
theorem EncodeLength.set_0_D : EncodeLength.Statement .set_0_D := ⟨_, _, rfl, rfl⟩
theorem EncodeLength.set_0_E : EncodeLength.Statement .set_0_E := ⟨_, _, rfl, rfl⟩
theorem EncodeLength.set_0_H : EncodeLength.Statement .set_0_H := ⟨_, _, rfl, rfl⟩
theorem EncodeLength.set_0_L : EncodeLength.Statement .set_0_L := ⟨_, _, rfl, rfl⟩
theorem EncodeLength.set_0_mHL : EncodeLength.Statement .set_0_mHL := ⟨_, _, rfl, rfl⟩
theorem EncodeLength.set_0_A : EncodeLength.Statement .set_0_A := ⟨_, _, rfl, rfl⟩
theorem EncodeLength.set_1_B : EncodeLength.Statement .set_1_B := ⟨_, _, rfl, rfl⟩
theorem EncodeLength.set_1_C : EncodeLength.Statement .set_1_C := ⟨_, _, rfl, rfl⟩
theorem EncodeLength.set_1_D : EncodeLength.Statement .set_1_D := ⟨_, _, rfl, rfl⟩
theorem EncodeLength.set_1_E : EncodeLength.Statement .set_1_E := ⟨_, _, rfl, rfl⟩
theorem EncodeLength.set_1_H : EncodeLength.Statement .set_1_H := ⟨_, _, rfl, rfl⟩
theorem EncodeLength.set_1_L : EncodeLength.Statement .set_1_L := ⟨_, _, rfl, rfl⟩
theorem EncodeLength.set_1_mHL : EncodeLength.Statement .set_1_mHL := ⟨_, _, rfl, rfl⟩
theorem EncodeLength.set_1_A : EncodeLength.Statement .set_1_A := ⟨_, _, rfl, rfl⟩
theorem EncodeLength.set_2_B : EncodeLength.Statement .set_2_B := ⟨_, _, rfl, rfl⟩
theorem EncodeLength.set_2_C : EncodeLength.Statement .set_2_C := ⟨_, _, rfl, rfl⟩
theorem EncodeLength.set_2_D : EncodeLength.Statement .set_2_D := ⟨_, _, rfl, rfl⟩
theorem EncodeLength.set_2_E : EncodeLength.Statement .set_2_E := ⟨_, _, rfl, rfl⟩
theorem EncodeLength.set_2_H : EncodeLength.Statement .set_2_H := ⟨_, _, rfl, rfl⟩
theorem EncodeLength.set_2_L : EncodeLength.Statement .set_2_L := ⟨_, _, rfl, rfl⟩
theorem EncodeLength.set_2_mHL : EncodeLength.Statement .set_2_mHL := ⟨_, _, rfl, rfl⟩
theorem EncodeLength.set_2_A : EncodeLength.Statement .set_2_A := ⟨_, _, rfl, rfl⟩
theorem EncodeLength.set_3_B : EncodeLength.Statement .set_3_B := ⟨_, _, rfl, rfl⟩
theorem EncodeLength.set_3_C : EncodeLength.Statement .set_3_C := ⟨_, _, rfl, rfl⟩
theorem EncodeLength.set_3_D : EncodeLength.Statement .set_3_D := ⟨_, _, rfl, rfl⟩
theorem EncodeLength.set_3_E : EncodeLength.Statement .set_3_E := ⟨_, _, rfl, rfl⟩
theorem EncodeLength.set_3_H : EncodeLength.Statement .set_3_H := ⟨_, _, rfl, rfl⟩
theorem EncodeLength.set_3_L : EncodeLength.Statement .set_3_L := ⟨_, _, rfl, rfl⟩
theorem EncodeLength.set_3_mHL : EncodeLength.Statement .set_3_mHL := ⟨_, _, rfl, rfl⟩
theorem EncodeLength.set_3_A : EncodeLength.Statement .set_3_A := ⟨_, _, rfl, rfl⟩
theorem EncodeLength.set_4_B : EncodeLength.Statement .set_4_B := ⟨_, _, rfl, rfl⟩
theorem EncodeLength.set_4_C : EncodeLength.Statement .set_4_C := ⟨_, _, rfl, rfl⟩
theorem EncodeLength.set_4_D : EncodeLength.Statement .set_4_D := ⟨_, _, rfl, rfl⟩
theorem EncodeLength.set_4_E : EncodeLength.Statement .set_4_E := ⟨_, _, rfl, rfl⟩
theorem EncodeLength.set_4_H : EncodeLength.Statement .set_4_H := ⟨_, _, rfl, rfl⟩
theorem EncodeLength.set_4_L : EncodeLength.Statement .set_4_L := ⟨_, _, rfl, rfl⟩
theorem EncodeLength.set_4_mHL : EncodeLength.Statement .set_4_mHL := ⟨_, _, rfl, rfl⟩
theorem EncodeLength.set_4_A : EncodeLength.Statement .set_4_A := ⟨_, _, rfl, rfl⟩
theorem EncodeLength.set_5_B : EncodeLength.Statement .set_5_B := ⟨_, _, rfl, rfl⟩
theorem EncodeLength.set_5_C : EncodeLength.Statement .set_5_C := ⟨_, _, rfl, rfl⟩
theorem EncodeLength.set_5_D : EncodeLength.Statement .set_5_D := ⟨_, _, rfl, rfl⟩
theorem EncodeLength.set_5_E : EncodeLength.Statement .set_5_E := ⟨_, _, rfl, rfl⟩
theorem EncodeLength.set_5_H : EncodeLength.Statement .set_5_H := ⟨_, _, rfl, rfl⟩
theorem EncodeLength.set_5_L : EncodeLength.Statement .set_5_L := ⟨_, _, rfl, rfl⟩
theorem EncodeLength.set_5_mHL : EncodeLength.Statement .set_5_mHL := ⟨_, _, rfl, rfl⟩
theorem EncodeLength.set_5_A : EncodeLength.Statement .set_5_A := ⟨_, _, rfl, rfl⟩
theorem EncodeLength.set_6_B : EncodeLength.Statement .set_6_B := ⟨_, _, rfl, rfl⟩
theorem EncodeLength.set_6_C : EncodeLength.Statement .set_6_C := ⟨_, _, rfl, rfl⟩
theorem EncodeLength.set_6_D : EncodeLength.Statement .set_6_D := ⟨_, _, rfl, rfl⟩
theorem EncodeLength.set_6_E : EncodeLength.Statement .set_6_E := ⟨_, _, rfl, rfl⟩
theorem EncodeLength.set_6_H : EncodeLength.Statement .set_6_H := ⟨_, _, rfl, rfl⟩
theorem EncodeLength.set_6_L : EncodeLength.Statement .set_6_L := ⟨_, _, rfl, rfl⟩
theorem EncodeLength.set_6_mHL : EncodeLength.Statement .set_6_mHL := ⟨_, _, rfl, rfl⟩
theorem EncodeLength.set_6_A : EncodeLength.Statement .set_6_A := ⟨_, _, rfl, rfl⟩
theorem EncodeLength.set_7_B : EncodeLength.Statement .set_7_B := ⟨_, _, rfl, rfl⟩
theorem EncodeLength.set_7_C : EncodeLength.Statement .set_7_C := ⟨_, _, rfl, rfl⟩
theorem EncodeLength.set_7_D : EncodeLength.Statement .set_7_D := ⟨_, _, rfl, rfl⟩
theorem EncodeLength.set_7_E : EncodeLength.Statement .set_7_E := ⟨_, _, rfl, rfl⟩
theorem EncodeLength.set_7_H : EncodeLength.Statement .set_7_H := ⟨_, _, rfl, rfl⟩
theorem EncodeLength.set_7_L : EncodeLength.Statement .set_7_L := ⟨_, _, rfl, rfl⟩
theorem EncodeLength.set_7_mHL : EncodeLength.Statement .set_7_mHL := ⟨_, _, rfl, rfl⟩
theorem EncodeLength.set_7_A : EncodeLength.Statement .set_7_A := ⟨_, _, rfl, rfl⟩

end Sys2Proof.Laws
end

