-- ==== Sys2Proof/Tests/Slice0.lean ====
section
/-! SUPPORT. The model's own tests. Every expected value is the spec's: the opcode maps of `30_encoding.md`
R48 and R49, and the vectors of `95_test_vectors.md` (named in each group's comment). Each is one step on a
small state. The last part holds the witnesses: for each obligation with hypotheses, a state that meets them. -/

namespace Sys2Proof.Tests

open Sys2Proof Sys2Proof.Machine

/-! ### WellFormed: each check refuses an ill-formed term -/

theorem test_wellformed_region_bounds_in_order : Region.wf { first := 2, last := 1, kind := .ram } = false := by decide
theorem test_wellformed_reset_low_nibble_of_F : ResetValues.wf { Config.defaults.reset with F := 0x01 } = false := by decide
theorem test_wellformed_dispatch_costs_something : Params.dispatchCyclesWf { Config.defaults with dispatchCycles := 0 } = false := by
  decide
theorem test_wellformed_params_check_the_reset_values :
    Params.wf { Config.defaults with reset := { Config.defaults.reset with F := 0x80 ||| 0x08 } } = false := by decide
theorem test_wellformed_params_check_the_cost : Params.wf { Config.defaults with dispatchCycles := 0 } = false := by decide
theorem test_wellformed_params_check_the_regions :
    Params.wf { Config.defaults with regions := [{ first := 0, last := 9, kind := .rom }, { first := 9, last := 8, kind := .ram }] } = false := by
  decide
theorem test_wellformed_defaults_accepted : Config.defaults.wf = true := by decide

/-! ### Decoding: every byte of the base map (R48), a row of it at a time. The operand bytes are 11 and 22; a
number is the instruction's length. The byte CB stands before 11, which makes `RL C`. -/

/-- The instruction the bytes begin with, and how many bytes it took. -/
def decoded (bytes : List Byte) : Option (Instr × Nat) :=
  match decode bytes with
  | .ok (i, rest) => some (i, bytes.length - rest.length)
  | .error _ => none

/-- One row of the base map: the sixteen bytes with this high nibble. -/
def baseRow (hi : Nat) : List (Option (Instr × Nat)) :=
  (List.range 16).map (fun lo => decoded [BitVec.ofNat 8 (16 * hi + lo), 0x11, 0x22])

/-- One row of the extended table: CB and the sixteen bytes with this high nibble. -/
def extendedRow (hi : Nat) : List (Option (Instr × Nat)) :=
  (List.range 16).map (fun lo => decoded [0xCB, BitVec.ofNat 8 (16 * hi + lo), 0x22])

theorem test_decode_base_0x : baseRow 0x0 = List.map some [
    (.nop, 1), (.ld_BC_d16 0x2211, 3), (.ld_mBC_A, 1), (.inc_BC, 1), (.inc_B, 1), (.dec_B, 1), (.ld_B_d8 0x11, 2),
    (.rlca, 1), (.ld_mA16_SP 0x2211, 3), (.add_HL_BC, 1), (.ld_A_mBC, 1), (.dec_BC, 1), (.inc_C, 1), (.dec_C, 1),
    (.ld_C_d8 0x11, 2), (.rrca, 1)] := by decide
theorem test_decode_base_1x : baseRow 0x1 = List.map some [
    (.stop, 1), (.ld_DE_d16 0x2211, 3), (.ld_mDE_A, 1), (.inc_DE, 1), (.inc_D, 1), (.dec_D, 1), (.ld_D_d8 0x11, 2),
    (.rla, 1), (.jr_e8 0x11, 2), (.add_HL_DE, 1), (.ld_A_mDE, 1), (.dec_DE, 1), (.inc_E, 1), (.dec_E, 1),
    (.ld_E_d8 0x11, 2), (.rra, 1)] := by decide
theorem test_decode_base_2x : baseRow 0x2 = List.map some [
    (.jr_NZ_e8 0x11, 2), (.ld_HL_d16 0x2211, 3), (.ld_mHLinc_A, 1), (.inc_HL, 1), (.inc_H, 1), (.dec_H, 1),
    (.ld_H_d8 0x11, 2), (.daa, 1), (.jr_Z_e8 0x11, 2), (.add_HL_HL, 1), (.ld_A_mHLinc, 1), (.dec_HL, 1), (.inc_L, 1),
    (.dec_L, 1), (.ld_L_d8 0x11, 2), (.cpl, 1)] := by decide
theorem test_decode_base_3x : baseRow 0x3 = List.map some [
    (.jr_NC_e8 0x11, 2), (.ld_SP_d16 0x2211, 3), (.ld_mHLdec_A, 1), (.inc_SP, 1), (.inc_mHL, 1), (.dec_mHL, 1),
    (.ld_mHL_d8 0x11, 2), (.scf, 1), (.jr_C_e8 0x11, 2), (.add_HL_SP, 1), (.ld_A_mHLdec, 1), (.dec_SP, 1),
    (.inc_A, 1), (.dec_A, 1), (.ld_A_d8 0x11, 2), (.ccf, 1)] := by decide
theorem test_decode_base_4x : baseRow 0x4 = List.map some [
    (.ld_B_B, 1), (.ld_B_C, 1), (.ld_B_D, 1), (.ld_B_E, 1), (.ld_B_H, 1), (.ld_B_L, 1), (.ld_B_mHL, 1), (.ld_B_A, 1),
    (.ld_C_B, 1), (.ld_C_C, 1), (.ld_C_D, 1), (.ld_C_E, 1), (.ld_C_H, 1), (.ld_C_L, 1), (.ld_C_mHL, 1), (.ld_C_A, 1)] := by decide
theorem test_decode_base_5x : baseRow 0x5 = List.map some [
    (.ld_D_B, 1), (.ld_D_C, 1), (.ld_D_D, 1), (.ld_D_E, 1), (.ld_D_H, 1), (.ld_D_L, 1), (.ld_D_mHL, 1), (.ld_D_A, 1),
    (.ld_E_B, 1), (.ld_E_C, 1), (.ld_E_D, 1), (.ld_E_E, 1), (.ld_E_H, 1), (.ld_E_L, 1), (.ld_E_mHL, 1), (.ld_E_A, 1)] := by decide
theorem test_decode_base_6x : baseRow 0x6 = List.map some [
    (.ld_H_B, 1), (.ld_H_C, 1), (.ld_H_D, 1), (.ld_H_E, 1), (.ld_H_H, 1), (.ld_H_L, 1), (.ld_H_mHL, 1), (.ld_H_A, 1),
    (.ld_L_B, 1), (.ld_L_C, 1), (.ld_L_D, 1), (.ld_L_E, 1), (.ld_L_H, 1), (.ld_L_L, 1), (.ld_L_mHL, 1), (.ld_L_A, 1)] := by decide
theorem test_decode_base_7x : baseRow 0x7 = List.map some [
    (.ld_mHL_B, 1), (.ld_mHL_C, 1), (.ld_mHL_D, 1), (.ld_mHL_E, 1), (.ld_mHL_H, 1), (.ld_mHL_L, 1), (.halt, 1),
    (.ld_mHL_A, 1), (.ld_A_B, 1), (.ld_A_C, 1), (.ld_A_D, 1), (.ld_A_E, 1), (.ld_A_H, 1), (.ld_A_L, 1),
    (.ld_A_mHL, 1), (.ld_A_A, 1)] := by decide
theorem test_decode_base_8x : baseRow 0x8 = List.map some [
    (.add_A_B, 1), (.add_A_C, 1), (.add_A_D, 1), (.add_A_E, 1), (.add_A_H, 1), (.add_A_L, 1), (.add_A_mHL, 1),
    (.add_A_A, 1), (.adc_A_B, 1), (.adc_A_C, 1), (.adc_A_D, 1), (.adc_A_E, 1), (.adc_A_H, 1), (.adc_A_L, 1),
    (.adc_A_mHL, 1), (.adc_A_A, 1)] := by decide
theorem test_decode_base_9x : baseRow 0x9 = List.map some [
    (.sub_A_B, 1), (.sub_A_C, 1), (.sub_A_D, 1), (.sub_A_E, 1), (.sub_A_H, 1), (.sub_A_L, 1), (.sub_A_mHL, 1),
    (.sub_A_A, 1), (.sbc_A_B, 1), (.sbc_A_C, 1), (.sbc_A_D, 1), (.sbc_A_E, 1), (.sbc_A_H, 1), (.sbc_A_L, 1),
    (.sbc_A_mHL, 1), (.sbc_A_A, 1)] := by decide
theorem test_decode_base_Ax : baseRow 0xA = List.map some [
    (.and_A_B, 1), (.and_A_C, 1), (.and_A_D, 1), (.and_A_E, 1), (.and_A_H, 1), (.and_A_L, 1), (.and_A_mHL, 1),
    (.and_A_A, 1), (.xor_A_B, 1), (.xor_A_C, 1), (.xor_A_D, 1), (.xor_A_E, 1), (.xor_A_H, 1), (.xor_A_L, 1),
    (.xor_A_mHL, 1), (.xor_A_A, 1)] := by decide
theorem test_decode_base_Bx : baseRow 0xB = List.map some [
    (.or_A_B, 1), (.or_A_C, 1), (.or_A_D, 1), (.or_A_E, 1), (.or_A_H, 1), (.or_A_L, 1), (.or_A_mHL, 1), (.or_A_A, 1),
    (.cp_A_B, 1), (.cp_A_C, 1), (.cp_A_D, 1), (.cp_A_E, 1), (.cp_A_H, 1), (.cp_A_L, 1), (.cp_A_mHL, 1), (.cp_A_A, 1)] := by decide
theorem test_decode_base_Cx : baseRow 0xC = List.map some [
    (.ret_NZ, 1), (.pop_BC, 1), (.jp_NZ_a16 0x2211, 3), (.jp_a16 0x2211, 3), (.call_NZ_a16 0x2211, 3), (.push_BC, 1),
    (.add_A_d8 0x11, 2), (.rst_00, 1), (.ret_Z, 1), (.ret, 1), (.jp_Z_a16 0x2211, 3), (.rl_C, 2),
    (.call_Z_a16 0x2211, 3), (.call_a16 0x2211, 3), (.adc_A_d8 0x11, 2), (.rst_08, 1)] := by decide
theorem test_decode_base_Dx : baseRow 0xD = List.map some [
    (.ret_NC, 1), (.pop_DE, 1), (.jp_NC_a16 0x2211, 3), (.undef_D3, 1), (.call_NC_a16 0x2211, 3), (.push_DE, 1),
    (.sub_A_d8 0x11, 2), (.rst_10, 1), (.ret_C, 1), (.reti, 1), (.jp_C_a16 0x2211, 3), (.undef_DB, 1),
    (.call_C_a16 0x2211, 3), (.undef_DD, 1), (.sbc_A_d8 0x11, 2), (.rst_18, 1)] := by decide
theorem test_decode_base_Ex : baseRow 0xE = List.map some [
    (.ldh_mA8_A 0x11, 2), (.pop_HL, 1), (.ld_mC_A, 1), (.undef_E3, 1), (.undef_E4, 1), (.push_HL, 1),
    (.and_A_d8 0x11, 2), (.rst_20, 1), (.add_SP_e8 0x11, 2), (.jp_HL, 1), (.ld_mA16_A 0x2211, 3), (.undef_EB, 1),
    (.undef_EC, 1), (.undef_ED, 1), (.xor_A_d8 0x11, 2), (.rst_28, 1)] := by decide
theorem test_decode_base_Fx : baseRow 0xF = List.map some [
    (.ldh_A_mA8 0x11, 2), (.pop_AF, 1), (.ld_A_mC, 1), (.di, 1), (.undef_F4, 1), (.push_AF, 1), (.or_A_d8 0x11, 2),
    (.rst_30, 1), (.ld_HL_SPe8 0x11, 2), (.ld_SP_HL, 1), (.ld_A_mA16 0x2211, 3), (.ei, 1), (.undef_FC, 1),
    (.undef_FD, 1), (.cp_A_d8 0x11, 2), (.rst_38, 1)] := by decide

/-! The extended table (R49): operation or bit by y, operand by z. -/

theorem test_decode_extended_0x : extendedRow 0x0 = List.map some [
    (.rlc_B, 2), (.rlc_C, 2), (.rlc_D, 2), (.rlc_E, 2), (.rlc_H, 2), (.rlc_L, 2), (.rlc_mHL, 2), (.rlc_A, 2),
    (.rrc_B, 2), (.rrc_C, 2), (.rrc_D, 2), (.rrc_E, 2), (.rrc_H, 2), (.rrc_L, 2), (.rrc_mHL, 2), (.rrc_A, 2)] := by decide
theorem test_decode_extended_1x : extendedRow 0x1 = List.map some [
    (.rl_B, 2), (.rl_C, 2), (.rl_D, 2), (.rl_E, 2), (.rl_H, 2), (.rl_L, 2), (.rl_mHL, 2), (.rl_A, 2), (.rr_B, 2),
    (.rr_C, 2), (.rr_D, 2), (.rr_E, 2), (.rr_H, 2), (.rr_L, 2), (.rr_mHL, 2), (.rr_A, 2)] := by decide
theorem test_decode_extended_2x : extendedRow 0x2 = List.map some [
    (.sla_B, 2), (.sla_C, 2), (.sla_D, 2), (.sla_E, 2), (.sla_H, 2), (.sla_L, 2), (.sla_mHL, 2), (.sla_A, 2),
    (.sra_B, 2), (.sra_C, 2), (.sra_D, 2), (.sra_E, 2), (.sra_H, 2), (.sra_L, 2), (.sra_mHL, 2), (.sra_A, 2)] := by decide
theorem test_decode_extended_3x : extendedRow 0x3 = List.map some [
    (.swap_B, 2), (.swap_C, 2), (.swap_D, 2), (.swap_E, 2), (.swap_H, 2), (.swap_L, 2), (.swap_mHL, 2), (.swap_A, 2),
    (.srl_B, 2), (.srl_C, 2), (.srl_D, 2), (.srl_E, 2), (.srl_H, 2), (.srl_L, 2), (.srl_mHL, 2), (.srl_A, 2)] := by decide
theorem test_decode_extended_4x : extendedRow 0x4 = List.map some [
    (.bit_0_B, 2), (.bit_0_C, 2), (.bit_0_D, 2), (.bit_0_E, 2), (.bit_0_H, 2), (.bit_0_L, 2), (.bit_0_mHL, 2),
    (.bit_0_A, 2), (.bit_1_B, 2), (.bit_1_C, 2), (.bit_1_D, 2), (.bit_1_E, 2), (.bit_1_H, 2), (.bit_1_L, 2),
    (.bit_1_mHL, 2), (.bit_1_A, 2)] := by decide
theorem test_decode_extended_5x : extendedRow 0x5 = List.map some [
    (.bit_2_B, 2), (.bit_2_C, 2), (.bit_2_D, 2), (.bit_2_E, 2), (.bit_2_H, 2), (.bit_2_L, 2), (.bit_2_mHL, 2),
    (.bit_2_A, 2), (.bit_3_B, 2), (.bit_3_C, 2), (.bit_3_D, 2), (.bit_3_E, 2), (.bit_3_H, 2), (.bit_3_L, 2),
    (.bit_3_mHL, 2), (.bit_3_A, 2)] := by decide
theorem test_decode_extended_6x : extendedRow 0x6 = List.map some [
    (.bit_4_B, 2), (.bit_4_C, 2), (.bit_4_D, 2), (.bit_4_E, 2), (.bit_4_H, 2), (.bit_4_L, 2), (.bit_4_mHL, 2),
    (.bit_4_A, 2), (.bit_5_B, 2), (.bit_5_C, 2), (.bit_5_D, 2), (.bit_5_E, 2), (.bit_5_H, 2), (.bit_5_L, 2),
    (.bit_5_mHL, 2), (.bit_5_A, 2)] := by decide
theorem test_decode_extended_7x : extendedRow 0x7 = List.map some [
    (.bit_6_B, 2), (.bit_6_C, 2), (.bit_6_D, 2), (.bit_6_E, 2), (.bit_6_H, 2), (.bit_6_L, 2), (.bit_6_mHL, 2),
    (.bit_6_A, 2), (.bit_7_B, 2), (.bit_7_C, 2), (.bit_7_D, 2), (.bit_7_E, 2), (.bit_7_H, 2), (.bit_7_L, 2),
    (.bit_7_mHL, 2), (.bit_7_A, 2)] := by decide
theorem test_decode_extended_8x : extendedRow 0x8 = List.map some [
    (.res_0_B, 2), (.res_0_C, 2), (.res_0_D, 2), (.res_0_E, 2), (.res_0_H, 2), (.res_0_L, 2), (.res_0_mHL, 2),
    (.res_0_A, 2), (.res_1_B, 2), (.res_1_C, 2), (.res_1_D, 2), (.res_1_E, 2), (.res_1_H, 2), (.res_1_L, 2),
    (.res_1_mHL, 2), (.res_1_A, 2)] := by decide
theorem test_decode_extended_9x : extendedRow 0x9 = List.map some [
    (.res_2_B, 2), (.res_2_C, 2), (.res_2_D, 2), (.res_2_E, 2), (.res_2_H, 2), (.res_2_L, 2), (.res_2_mHL, 2),
    (.res_2_A, 2), (.res_3_B, 2), (.res_3_C, 2), (.res_3_D, 2), (.res_3_E, 2), (.res_3_H, 2), (.res_3_L, 2),
    (.res_3_mHL, 2), (.res_3_A, 2)] := by decide
theorem test_decode_extended_Ax : extendedRow 0xA = List.map some [
    (.res_4_B, 2), (.res_4_C, 2), (.res_4_D, 2), (.res_4_E, 2), (.res_4_H, 2), (.res_4_L, 2), (.res_4_mHL, 2),
    (.res_4_A, 2), (.res_5_B, 2), (.res_5_C, 2), (.res_5_D, 2), (.res_5_E, 2), (.res_5_H, 2), (.res_5_L, 2),
    (.res_5_mHL, 2), (.res_5_A, 2)] := by decide
theorem test_decode_extended_Bx : extendedRow 0xB = List.map some [
    (.res_6_B, 2), (.res_6_C, 2), (.res_6_D, 2), (.res_6_E, 2), (.res_6_H, 2), (.res_6_L, 2), (.res_6_mHL, 2),
    (.res_6_A, 2), (.res_7_B, 2), (.res_7_C, 2), (.res_7_D, 2), (.res_7_E, 2), (.res_7_H, 2), (.res_7_L, 2),
    (.res_7_mHL, 2), (.res_7_A, 2)] := by decide
theorem test_decode_extended_Cx : extendedRow 0xC = List.map some [
    (.set_0_B, 2), (.set_0_C, 2), (.set_0_D, 2), (.set_0_E, 2), (.set_0_H, 2), (.set_0_L, 2), (.set_0_mHL, 2),
    (.set_0_A, 2), (.set_1_B, 2), (.set_1_C, 2), (.set_1_D, 2), (.set_1_E, 2), (.set_1_H, 2), (.set_1_L, 2),
    (.set_1_mHL, 2), (.set_1_A, 2)] := by decide
theorem test_decode_extended_Dx : extendedRow 0xD = List.map some [
    (.set_2_B, 2), (.set_2_C, 2), (.set_2_D, 2), (.set_2_E, 2), (.set_2_H, 2), (.set_2_L, 2), (.set_2_mHL, 2),
    (.set_2_A, 2), (.set_3_B, 2), (.set_3_C, 2), (.set_3_D, 2), (.set_3_E, 2), (.set_3_H, 2), (.set_3_L, 2),
    (.set_3_mHL, 2), (.set_3_A, 2)] := by decide
theorem test_decode_extended_Ex : extendedRow 0xE = List.map some [
    (.set_4_B, 2), (.set_4_C, 2), (.set_4_D, 2), (.set_4_E, 2), (.set_4_H, 2), (.set_4_L, 2), (.set_4_mHL, 2),
    (.set_4_A, 2), (.set_5_B, 2), (.set_5_C, 2), (.set_5_D, 2), (.set_5_E, 2), (.set_5_H, 2), (.set_5_L, 2),
    (.set_5_mHL, 2), (.set_5_A, 2)] := by decide
theorem test_decode_extended_Fx : extendedRow 0xF = List.map some [
    (.set_6_B, 2), (.set_6_C, 2), (.set_6_D, 2), (.set_6_E, 2), (.set_6_H, 2), (.set_6_L, 2), (.set_6_mHL, 2),
    (.set_6_A, 2), (.set_7_B, 2), (.set_7_C, 2), (.set_7_D, 2), (.set_7_E, 2), (.set_7_H, 2), (.set_7_L, 2),
    (.set_7_mHL, 2), (.set_7_A, 2)] := by decide

/-! Too few bytes are refused by name. -/

theorem test_decode_nothing : decode [] = .error .noOpcode := by rfl
theorem test_decode_prefix_alone : decode [0xCB] = .error .noExtendedOpcode := by rfl
theorem test_decode_operand_missing : decode [0xC3, 0x50] = .error .noOperand := by rfl

/-! ### One step on a small state -/

/-- A memory with these bytes from an address on. -/
def load (m : Memory) (a : Nat) : List Byte → Memory
  | [] => m
  | b :: rest => load (m.write a b) (a + 1) rest

/-- The start state of the vectors: everything at its reset value, `code` at 0x0100 and pc there, and `data` at
0xC000. -/
def bench (code : List Byte) (data : List Byte := []) : State :=
  { State.reset with pc := 0x0100, mem := load (load [] 0x0100 code) 0xC000 data }

/-- What one step leaves, seen through `f`. -/
def after {α : Type} (s : State) (f : State → α) : Option α :=
  match step s with
  | .next t => some (f t)
  | .fault _ => none
  | .refused _ => none


/-! Loads (V1 to V9, S7) -/

theorem test_ld_B_d8 :
    after (bench [0x06, 0x7F]) (fun t => (t.B, t.pc, t.cycles)) = some (0x7F, 0x0102, 2) := by decide
theorem test_ld_mHL_d8 :
    after { bench [0x36, 0xAB] with H := 0xC0 } (fun t => (t.byteAt 0xC000, t.pc, t.cycles)) =
      some (0xAB, 0x0102, 3) := by decide
theorem test_ld_A_B :
    after { bench [0x78] with B := 0x5A } (fun t => (t.A, t.B, t.pc, t.cycles)) =
      some (0x5A, 0x5A, 0x0101, 1) := by decide
theorem test_ld_mHL_L :
    after { bench [0x75] with H := 0xC1, L := 0x23 } (fun t => (t.byteAt 0xC123, t.pc, t.cycles)) =
      some (0x23, 0x0101, 2) := by decide
theorem test_ld_A_mHLinc :
    after { bench [0x2A] [0x42] with H := 0xC0 } (fun t => (t.A, t.hl, t.pc, t.cycles)) =
      some (0x42, 0xC001, 0x0101, 2) := by decide
theorem test_ld_mHLdec_A_wraps :
    after { bench [0x32] with A := 0x99 } (fun t => (t.byteAt 0x0000, t.hl, t.pc, t.cycles)) =
      some (0x99, 0xFFFF, 0x0101, 2) := by decide
theorem test_ldh_mA8_A :
    after { bench [0xE0, 0x80] with A := 0x12 } (fun t => (t.byteAt 0xFF80, t.pc, t.cycles)) =
      some (0x12, 0x0102, 3) := by decide
theorem test_ld_mC_A :
    after { bench [0xE2] with A := 0x90, C := 0x44 } (fun t => (t.byteAt 0xFF44, t.pc, t.cycles)) =
      some (0x90, 0x0101, 2) := by decide
theorem test_ld_mA16_A :
    after { bench [0xEA, 0x34, 0xC2] with A := 0x5C } (fun t => (t.byteAt 0xC234, t.pc, t.cycles)) =
      some (0x5C, 0x0103, 4) := by decide

/-! 16-bit loads and the stack (V10 to V18, S8) -/

theorem test_ld_SP_d16 :
    after (bench [0x31, 0xFE, 0xFF]) (fun t => (t.sp, t.pc, t.cycles)) = some (0xFFFE, 0x0103, 3) := by decide
theorem test_ld_mA16_SP_wraps :
    after { bench [0x08, 0xFF, 0xFF] with sp := 0xABCD } (fun t => (t.byteAt 0xFFFF, t.byteAt 0x0000, t.pc, t.cycles)) =
      some (0xCD, 0xAB, 0x0103, 5) := by decide
theorem test_push_AF_wraps :
    after { bench [0xF5] with A := 0x12, F := 0xB0, sp := 0x0001 } (fun t => (t.byteAt 0x0000, t.byteAt 0xFFFF, t.sp, t.cycles)) =
      some (0x12, 0xB0, 0xFFFF, 4) := by decide
theorem test_pop_AF_masks_F :
    after { bench [0xF1] [0xFF, 0x34] with sp := 0xC000 } (fun t => (t.A, t.F, t.sp, t.cycles)) =
      some (0x34, 0xF0, 0xC002, 3) := by decide
theorem test_pop_DE :
    after { bench [0xD1] [0xEF, 0xBE] with sp := 0xC000 } (fun t => (t.D, t.E, t.sp, t.cycles)) =
      some (0xBE, 0xEF, 0xC002, 3) := by decide
theorem test_ld_HL_SPe8_minus_one :
    after { bench [0xF8, 0xFF] with sp := 0x0005 } (fun t => (t.hl, t.F, t.sp, t.cycles)) =
      some (0x0004, 0x30, 0x0005, 3) := by decide
theorem test_ld_HL_SPe8_clears_Z_and_N :
    after { bench [0xF8, 0x10] with sp := 0x00F0, F := 0xF0 } (fun t => (t.hl, t.F, t.cycles)) =
      some (0x0100, 0x10, 3) := by decide
theorem test_ld_SP_HL :
    after { bench [0xF9] with H := 0xDF, L := 0xFF } (fun t => (t.sp, t.pc, t.cycles)) =
      some (0xDFFF, 0x0101, 2) := by decide

/-! 8-bit arithmetic and logic (V30 to V64) -/

theorem test_add_A_B :
    after { bench [0x80] with A := 0x3A, B := 0xC6 } (fun t => (t.A, t.F, t.pc, t.cycles)) =
      some (0x00, 0xB0, 0x0101, 1) := by decide
theorem test_add_A_d8 :
    after { bench [0xC6, 0x01] with A := 0x0F, F := 0xF0 } (fun t => (t.A, t.F, t.pc, t.cycles)) =
      some (0x10, 0x20, 0x0102, 2) := by decide
theorem test_adc_A_C :
    after { bench [0x89] with A := 0xFF, F := 0x10 } (fun t => (t.A, t.F, t.pc, t.cycles)) =
      some (0x00, 0xB0, 0x0101, 1) := by decide
theorem test_adc_A_mHL :
    after { bench [0x8E] [0x1E] with A := 0xE1, H := 0xC0, F := 0x10 } (fun t => (t.A, t.F, t.pc, t.cycles)) =
      some (0x00, 0xB0, 0x0101, 2) := by decide
theorem test_sub_A_mHL :
    after { bench [0x96] [0x40] with A := 0x3E, H := 0xC0 } (fun t => (t.A, t.F, t.pc, t.cycles)) =
      some (0xFE, 0x50, 0x0101, 2) := by decide
theorem test_sbc_A_H :
    after { bench [0x9C] with A := 0x3B, H := 0x2A, F := 0x10 } (fun t => (t.A, t.F, t.pc, t.cycles)) =
      some (0x10, 0x40, 0x0101, 1) := by decide
theorem test_sbc_A_d8 :
    after { bench [0xDE, 0x0F] with A := 0x10, F := 0x10 } (fun t => (t.A, t.F, t.pc, t.cycles)) =
      some (0x00, 0xE0, 0x0102, 2) := by decide
theorem test_and_A_L :
    after { bench [0xA5] with A := 0x5A, L := 0x3F, F := 0x50 } (fun t => (t.A, t.F, t.pc, t.cycles)) =
      some (0x1A, 0x20, 0x0101, 1) := by decide
theorem test_xor_A_A :
    after { bench [0xAF] with A := 0xFF, F := 0xF0 } (fun t => (t.A, t.F, t.pc, t.cycles)) =
      some (0x00, 0x80, 0x0101, 1) := by decide
theorem test_or_A_mHL :
    after { bench [0xB6] [0x0F] with A := 0x5A, H := 0xC0 } (fun t => (t.A, t.F, t.pc, t.cycles)) =
      some (0x5F, 0x00, 0x0101, 2) := by decide
theorem test_cp_A_mHL :
    after { bench [0xBE] [0x40] with A := 0x3C, H := 0xC0 } (fun t => (t.A, t.F, t.pc, t.cycles)) =
      some (0x3C, 0x50, 0x0101, 2) := by decide
theorem test_inc_A :
    after { bench [0x3C] with A := 0xFF, F := 0x10 } (fun t => (t.A, t.F, t.pc, t.cycles)) =
      some (0x00, 0xB0, 0x0101, 1) := by decide
theorem test_inc_B :
    after { bench [0x04] with B := 0x0F, F := 0xC0 } (fun t => (t.B, t.F, t.pc, t.cycles)) =
      some (0x10, 0x20, 0x0101, 1) := by decide
theorem test_dec_A :
    after { bench [0x3D] with F := 0x10 } (fun t => (t.A, t.F, t.pc, t.cycles)) =
      some (0xFF, 0x70, 0x0101, 1) := by decide
theorem test_dec_mHL :
    after { bench [0x35] [0x10] with H := 0xC0 } (fun t => (t.byteAt 0xC000, t.F, t.pc, t.cycles)) =
      some (0x0F, 0x60, 0x0101, 3) := by decide
theorem test_daa_after_addition :
    after { bench [0x27] with A := 0x7D } (fun t => (t.A, t.F, t.pc, t.cycles)) =
      some (0x83, 0x00, 0x0101, 1) := by decide
theorem test_daa_after_subtraction :
    after { bench [0x27] with F := 0x70 } (fun t => (t.A, t.F, t.pc, t.cycles)) =
      some (0x9A, 0x50, 0x0101, 1) := by decide
theorem test_cpl :
    after { bench [0x2F] with A := 0x35, F := 0x90 } (fun t => (t.A, t.F, t.pc, t.cycles)) =
      some (0xCA, 0xF0, 0x0101, 1) := by decide
theorem test_scf :
    after { bench [0x37] with F := 0xE0 } (fun t => (t.A, t.F, t.pc, t.cycles)) =
      some (0x00, 0x90, 0x0101, 1) := by decide
theorem test_ccf :
    after { bench [0x3F] with F := 0xF0 } (fun t => (t.A, t.F, t.pc, t.cycles)) =
      some (0x00, 0x80, 0x0101, 1) := by decide

/-! 16-bit arithmetic (V70 to V80) -/

theorem test_add_HL_BC :
    after { bench [0x09] with H := 0x8A, L := 0x23, B := 0x06, C := 0x05, F := 0x80 } (fun t => (t.hl, t.F, t.pc, t.cycles)) =
      some (0x9028, 0xA0, 0x0101, 2) := by decide
theorem test_add_HL_SP :
    after { bench [0x39] with H := 0xFF, L := 0xFF, sp := 0x0001, F := 0x80 } (fun t => (t.hl, t.F, t.pc, t.cycles)) =
      some (0x0000, 0xB0, 0x0101, 2) := by decide
theorem test_inc_SP_wraps :
    after { bench [0x33] with sp := 0xFFFF, F := 0xF0 } (fun t => (t.sp, t.F, t.pc, t.cycles)) =
      some (0x0000, 0xF0, 0x0101, 2) := by decide
theorem test_dec_BC_wraps :
    after { bench [0x0B] with F := 0xF0 } (fun t => (t.bc, t.F, t.pc, t.cycles)) =
      some (0xFFFF, 0xF0, 0x0101, 2) := by decide
theorem test_add_SP_e8 :
    after { bench [0xE8, 0x80] with sp := 0x0080 } (fun t => (t.sp, t.F, t.pc, t.cycles)) =
      some (0x0000, 0x10, 0x0102, 4) := by decide

/-! Rotates, shifts, bits (V90 to V114) -/

theorem test_rlca :
    after { bench [0x07] with F := 0x80 } (fun t => (t.A, t.F, t.pc, t.cycles)) =
      some (0x00, 0x00, 0x0101, 1) := by decide
theorem test_rrca :
    after { bench [0x0F] with A := 0x3B } (fun t => (t.A, t.F, t.pc, t.cycles)) =
      some (0x9D, 0x10, 0x0101, 1) := by decide
theorem test_rla :
    after { bench [0x17] with A := 0x95, F := 0x10 } (fun t => (t.A, t.F, t.pc, t.cycles)) =
      some (0x2B, 0x10, 0x0101, 1) := by decide
theorem test_rra :
    after { bench [0x1F] with A := 0x81 } (fun t => (t.A, t.F, t.pc, t.cycles)) =
      some (0x40, 0x10, 0x0101, 1) := by decide
theorem test_rlc_mHL_zero :
    after { bench [0xCB, 0x06] with H := 0xC0 } (fun t => (t.byteAt 0xC000, t.F, t.pc, t.cycles)) =
      some (0x00, 0x80, 0x0102, 4) := by decide
theorem test_rrc_C :
    after { bench [0xCB, 0x09] with C := 0x01 } (fun t => (t.C, t.F, t.pc, t.cycles)) =
      some (0x80, 0x10, 0x0102, 2) := by decide
theorem test_rl_C :
    after { bench [0xCB, 0x11] with C := 0x80 } (fun t => (t.C, t.F, t.pc, t.cycles)) =
      some (0x00, 0x90, 0x0102, 2) := by decide
theorem test_rr_D :
    after { bench [0xCB, 0x1A] with D := 0x01, F := 0x10 } (fun t => (t.D, t.F, t.pc, t.cycles)) =
      some (0x80, 0x10, 0x0102, 2) := by decide
theorem test_sla_mHL :
    after { bench [0xCB, 0x26] [0xFF] with H := 0xC0 } (fun t => (t.byteAt 0xC000, t.F, t.pc, t.cycles)) =
      some (0xFE, 0x10, 0x0102, 4) := by decide
theorem test_sra_D :
    after { bench [0xCB, 0x2A] with D := 0x8A } (fun t => (t.D, t.F, t.pc, t.cycles)) =
      some (0xC5, 0x00, 0x0102, 2) := by decide
theorem test_swap_A :
    after { bench [0xCB, 0x37] with A := 0xF1, F := 0xF0 } (fun t => (t.A, t.F, t.pc, t.cycles)) =
      some (0x1F, 0x00, 0x0102, 2) := by decide
theorem test_srl_B :
    after { bench [0xCB, 0x38] with B := 0xFF } (fun t => (t.B, t.F, t.pc, t.cycles)) =
      some (0x7F, 0x10, 0x0102, 2) := by decide
theorem test_bit_7_H :
    after { bench [0xCB, 0x7C] with H := 0x7F, F := 0x10 } (fun t => (t.H, t.F, t.pc, t.cycles)) =
      some (0x7F, 0xB0, 0x0102, 2) := by decide
theorem test_bit_0_mHL :
    after { bench [0xCB, 0x46] [0xFE] with H := 0xC0 } (fun t => (t.byteAt 0xC000, t.F, t.pc, t.cycles)) =
      some (0xFE, 0xA0, 0x0102, 3) := by decide
theorem test_res_3_mHL :
    after { bench [0xCB, 0x9E] [0xFF] with H := 0xC0 } (fun t => (t.byteAt 0xC000, t.F, t.pc, t.cycles)) =
      some (0xF7, 0x00, 0x0102, 4) := by decide
theorem test_set_3_A :
    after { bench [0xCB, 0xDF] with A := 0x80 } (fun t => (t.A, t.F, t.pc, t.cycles)) =
      some (0x88, 0x00, 0x0102, 2) := by decide

/-! Control transfer (V120 to V139) -/

theorem test_jp_a16 :
    after (bench [0xC3, 0x50, 0x01]) (fun t => (t.pc, t.sp, t.cycles)) = some (0x0150, 0x0000, 4) := by decide
theorem test_jp_Z_taken :
    after { bench [0xCA, 0x00, 0x02] with F := 0x80 } (fun t => (t.pc, t.sp, t.cycles)) =
      some (0x0200, 0x0000, 4) := by decide
theorem test_jp_Z_not_taken :
    after (bench [0xCA, 0x00, 0x02]) (fun t => (t.pc, t.sp, t.cycles)) = some (0x0103, 0x0000, 3) := by decide
theorem test_jp_HL :
    after { bench [0xE9] with H := 0x40 } (fun t => (t.pc, t.sp, t.cycles)) = some (0x4000, 0x0000, 1) := by decide
theorem test_jr_back :
    after (bench [0x18, 0xFB]) (fun t => (t.pc, t.sp, t.cycles)) = some (0x00FD, 0x0000, 3) := by decide
theorem test_jr_C_taken :
    after { bench [0x38, 0x10] with F := 0x10 } (fun t => (t.pc, t.sp, t.cycles)) =
      some (0x0112, 0x0000, 3) := by decide
theorem test_jr_NZ_not_taken :
    after { bench [0x20, 0xFC] with F := 0x80 } (fun t => (t.pc, t.sp, t.cycles)) =
      some (0x0102, 0x0000, 2) := by decide
theorem test_call :
    after { bench [0xCD, 0x00, 0x20] with sp := 0xD000 } (fun t => (t.byteAt 0xCFFF, t.byteAt 0xCFFE, t.pc, t.sp, t.cycles)) =
      some (0x01, 0x03, 0x2000, 0xCFFE, 6) := by decide
theorem test_call_C_not_taken :
    after { bench [0xDC, 0x00, 0x20] with sp := 0xD000 } (fun t => (t.pc, t.sp, t.cycles)) =
      some (0x0103, 0xD000, 3) := by decide
theorem test_ret :
    after { bench [0xC9] [0x03, 0x01] with sp := 0xC000 } (fun t => (t.pc, t.sp, t.cycles)) =
      some (0x0103, 0xC002, 4) := by decide
theorem test_ret_Z_taken :
    after { bench [0xC8] [0x03, 0x01] with sp := 0xC000, F := 0x80 } (fun t => (t.pc, t.sp, t.cycles)) =
      some (0x0103, 0xC002, 5) := by decide
theorem test_ret_Z_not_taken :
    after { bench [0xC8] [0x03, 0x01] with sp := 0xC000 } (fun t => (t.pc, t.sp, t.cycles)) =
      some (0x0101, 0xC000, 2) := by decide
theorem test_reti :
    after { bench [0xD9] [0x03, 0x01] with sp := 0xC000 } (fun t => (t.pc, t.sp, t.IME, t.cycles)) =
      some (0x0103, 0xC002, true, 4) := by decide
theorem test_rst_28 :
    after { bench [0xEF] with sp := 0xD000 } (fun t => (t.byteAt 0xCFFF, t.byteAt 0xCFFE, t.pc, t.sp, t.cycles)) =
      some (0x01, 0x01, 0x0028, 0xCFFE, 4) := by decide

/-! System instructions (V150 to V158) -/

theorem test_di :
    after { bench [0xF3] with IME := true } (fun t => (t.IME, t.pc, t.cycles)) = some (false, 0x0101, 1) := by decide
theorem test_ei : after (bench [0xFB]) (fun t => (t.IME, t.pc, t.cycles)) = some (true, 0x0101, 1) := by decide
theorem test_halt :
    after { bench [0x76] with A := 0x12, F := 0xF0 } (fun t => (t.A, t.F, t.pc, t.cycles)) =
      some (0x12, 0xF0, 0x0101, 1) := by decide
theorem test_stop_is_one_byte :
    after { bench [0x10, 0x00] with A := 0x12, F := 0xF0 } (fun t => (t.A, t.F, t.pc, t.cycles)) =
      some (0x12, 0xF0, 0x0101, 1) := by decide
theorem test_undefined_DD :
    after { bench [0xDD] with A := 0x12, F := 0xF0 } (fun t => (t.A, t.F, t.pc, t.cycles)) =
      some (0x12, 0xF0, 0x0101, 1) := by decide
theorem test_nop_at_the_top_of_memory : after { State.reset with pc := 0xFFFF } (fun t => (t.pc, t.cycles)) = some (0x0000, 1) := by
  decide
theorem test_prefix_at_the_top_of_memory :
    after { State.reset with pc := 0xFFFF, A := 0x12, mem := [(0x0000, 0x37), (0xFFFF, 0xCB)] }
      (fun t => (t.A, t.F, t.pc, t.cycles)) = some (0x21, 0x00, 0x0001, 2) := by decide

/-! Interrupts and reset (V170 to V178, D12) -/

theorem test_dispatch_lowest_of_five :
    after { bench [0x00] with sp := 0xFFFE, IME := true, IE := 0x1F, IF := 0x1F } (fun t => (t.IME, t.IE, t.IF, t.pc, t.sp, t.cycles)) =
      some (false, 0x1F, 0x1E, 0x0040, 0xFFFC, 5) := by decide
theorem test_dispatch_pushes_pc :
    after { bench [0x00] with sp := 0xFFFE, IME := true, IE := 0x1F, IF := 0x1F } (fun t => (t.byteAt 0xFFFD, t.byteAt 0xFFFC)) =
      some (0x01, 0x00) := by decide
theorem test_gate_closed :
    after { bench [0x00] with IME := false, IE := 0x1F, IF := 0x1F } (fun t => (t.IME, t.IE, t.IF, t.pc, t.sp, t.cycles)) =
      some (false, 0x1F, 0x1F, 0x0101, 0x0000, 1) := by decide
theorem test_pending_but_not_enabled :
    after { bench [0x00] with IME := true, IE := 0x01, IF := 0x1E } (fun t => (t.IME, t.IE, t.IF, t.pc, t.sp, t.cycles)) =
      some (true, 0x01, 0x1E, 0x0101, 0x0000, 1) := by decide
theorem test_dispatch_last_source_upper_bits_stay :
    after { bench [0x00] with sp := 0xFFFE, IME := true, IE := 0xF0, IF := 0xF0 } (fun t => (t.IME, t.IE, t.IF, t.pc, t.sp, t.cycles)) =
      some (false, 0xF0, 0xE0, 0x0060, 0xFFFC, 5) := by decide
theorem test_upper_bits_request_nothing :
    after { bench [0x00] with IME := true, IE := 0xE0, IF := 0xE0 } (fun t => (t.IME, t.IE, t.IF, t.pc, t.sp, t.cycles)) =
      some (true, 0xE0, 0xE0, 0x0101, 0x0000, 1) := by decide
theorem test_dispatch_among_enabled_only :
    after { bench [0x00] with sp := 0xFFFE, IME := true, IE := 0x0C, IF := 0x1E } (fun t => (t.IME, t.IE, t.IF, t.pc, t.sp, t.cycles)) =
      some (false, 0x0C, 0x1A, 0x0050, 0xFFFC, 5) := by decide
theorem test_request_arrives_before_the_tick :
    after { bench [0x00] with sp := 0xFFFE, IME := true, IE := 0x04, inbox := [[.requestInterrupt .timer], []] } (fun t => (t.IF, t.pc, t.inbox)) =
      some (0x00, 0x0050, [[]]) := by decide
theorem test_reset_arrives_before_the_tick :
    after { bench [0x3C] with A := 0x12, sp := 0x9000, IME := true, inbox := [[.powerOnReset]] } (fun t => (t.A, t.sp, t.IME, t.pc, t.byteAt 0x0100)) =
      some (0x00, 0x0000, false, 0x0001, 0x3C) := by decide
theorem test_first_tick_after_reset : after State.reset (fun t => (t.pc, t.cycles, t.mem)) = some (0x0001, 1, []) := by decide

/-! The facade: read-only memory, the interrupt-register port, a device (R31, R32, R163) -/

/-- A map with each kind: two bytes of read-only memory, IE at the top, IF at FF0F, a device at FF04. -/
def mapped (s : State) : State :=
  { s with cfg := { s.cfg with regions := [
      { first := 0xC000, last := 0xC001, kind := .rom }, { first := 0xFFFF, last := 0xFFFF, kind := .portIE },
      { first := 0xFF0F, last := 0xFF0F, kind := .portIF }, { first := 0xFF04, last := 0xFF07, kind := .device }] } }

theorem test_kinds_at_the_bounds :
    [0xBFFF, 0xC000, 0xC001, 0xC002, 0xFF03, 0xFF04, 0xFF07, 0xFF08, 0xFF0F, 0xFFFF].map (mapped State.reset).kindAt =
      [.ram, .rom, .rom, .ram, .ram, .device, .device, .ram, .portIF, .portIE] := by decide
theorem test_rom_ignores_a_write :
    after { mapped (bench [0x77] [0x42]) with A := 0x99, H := 0xC0 } (fun t => (t.byteAt 0xC000, t.cycles)) =
      some (0x42, 2) := by decide
theorem test_write_routed_to_IE :
    after { mapped (bench [0xE0, 0xFF]) with A := 0xF5 } (fun t => (t.IE, t.IF, t.byteAt 0xFFFF, t.cycles)) =
      some (0xF5, 0x00, 0x00, 3) := by decide
theorem test_read_routed_to_IF :
    after { mapped (bench [0xF0, 0x0F]) with IF := 0xE4 } (fun t => (t.A, t.IF, t.cycles)) = some (0xE4, 0xE4, 3) := by
  decide
/-- What the device at FF04 sees of the first access to it, in the state that has run `F0` or `E0` `04` so far. -/
def firstCall (x : Access) (s : State) : DeviceCall :=
  { access := x, facade := s.facade, stored := s.mem, IE := s.IE, IF := s.IF, nth := 0 }
theorem test_device_read_is_free :
    after (mapped (bench [0xF0, 0x04])) (fun t => (t.A, t.IE, t.IF, t.facade, t.asked)) =
      (let c := firstCall (.read 0xFF04) (bench [0xF0, 0x04])
       some (Config.deviceByte c, Config.deviceIE c, Config.deviceIF c, Config.deviceState c, 1)) := by rfl
theorem test_device_write_reaches_the_facade :
    after { mapped (bench [0xE0, 0x05]) with A := 0x7B, facade := 9 } (fun t => (t.facade, t.byteAt 0xFF05, t.cycles)) =
      some (Config.deviceState (firstCall (.write 0xFF05 0x7B) { bench [0xE0, 0x05] with facade := 9 }), 0x00, 3) := by
  rfl

/-! The table words of `opcode_table.json` (R55), and the step that runs one -/

theorem test_table_word_base : decodeTableWord 8 0x41 = some .ld_B_C := by decide
theorem test_table_word_base_with_operand : decodeTableWord 24 0xC3 = some (.jp_a16 0x0000) := by decide
theorem test_table_word_extended : decodeTableWord 16 0xCB7C = some .bit_7_H := by decide
theorem test_fetch_word_base :
    after (State.reset.withFetchWord 8 0x3C) (fun t => (t.A, t.F, t.pc, t.cycles)) = some (0x01, 0x00, 0x0001, 1) := by decide
theorem test_fetch_word_extended :
    after ({ State.reset with A := 0x12 }.withFetchWord 16 0xCB37) (fun t => (t.A, t.pc, t.cycles)) =
      some (0x21, 0x0002, 2) := by decide
theorem test_fetch_word_stops_a_dispatch :
    after ({ State.reset with IME := true, IE := 0x01, IF := 0x01 }.withFetchWord 8 0x3C) (fun t => (t.A, t.pc)) =
      some (0x01, 0x0001) := by decide
theorem test_fetch_word_over_a_device :
    after ({ mapped State.reset with pc := 0xFF04 }.withFetchWord 8 0x3C) (fun t => (t.A, t.pc)) =
      some (0x01, 0xFF05) := by decide

/-! ### Witnesses: the hypotheses of each obligation are met together -/

/-- A state whose next tick runs what stands at pc. -/
def quiet : State := bench [0x00]

/-- A state whose next tick dispatches source 0, with the four others pending too. -/
def ringing : State := { bench [0xFB] with sp := 0xFFFE, IME := true, IE := 0x1F, IF := 0x1F }

theorem quiet_noDispatch : NoDispatch quiet := Or.inl rfl
theorem ringing_dispatches : Dispatches 0 ringing := ⟨rfl, by decide, by decide, by decide⟩
theorem last_source_dispatches : Dispatches 4 { ringing with IE := 0xF0 } := ⟨rfl, by decide, by decide, by decide⟩
theorem quiet_plain : quiet.plainFacade := fun _ => Or.inl rfl
theorem ringing_plain : ringing.plainFacade := fun _ => Or.inl rfl

theorem witness_PopReadsPairAboveStackPointer : RQ.HL ≠ .AF ∧ RQ.AF = .AF := by decide

theorem witness_DecimalAdjust : quiet.fN = false ∧ ({ quiet with F := 0x40 } : State).fN = true := by decide

theorem witness_DecimalAdjustMakesBinaryArithmeticDecimal :
    bcdValue ({ quiet with A := 0x99 } : State).A = some 99 ∧ bcdValue 0x00 = some 0 ∧ bcdValue 0x38 = some 38 := by decide

theorem witness_AccumulatorRotates :
    ∀ p ∈ [(RotOp.rlc, Instr.rlca, (0x07 : Byte)), (.rrc, .rrca, 0x0F), (.rl, .rla, 0x17), (.rr, .rra, 0x1F)],
      (p.1 = .rlc ∧ p.2.1 = .rlca ∧ p.2.2 = 0x07) ∨ (p.1 = .rrc ∧ p.2.1 = .rrca ∧ p.2.2 = 0x0F) ∨
        (p.1 = .rl ∧ p.2.1 = .rla ∧ p.2.2 = 0x17) ∨ (p.1 = .rr ∧ p.2.1 = .rra ∧ p.2.2 = 0x1F) := by decide

theorem witness_condition_holds_and_fails (c : Cond) :
    (∃ s : State, CondHolds c s) ∧ ∃ s : State, ¬ CondHolds c s := by
  cases c
  · exact ⟨⟨quiet, by simp [CondHolds]; decide⟩, ⟨{ quiet with F := 0x80 }, by simp [CondHolds]; decide⟩⟩
  · exact ⟨⟨{ quiet with F := 0x80 }, by simp [CondHolds]; decide⟩, ⟨quiet, by simp [CondHolds]; decide⟩⟩
  · exact ⟨⟨quiet, by simp [CondHolds]; decide⟩, ⟨{ quiet with F := 0x10 }, by simp [CondHolds]; decide⟩⟩
  · exact ⟨⟨{ quiet with F := 0x10 }, by simp [CondHolds]; decide⟩, ⟨quiet, by simp [CondHolds]; decide⟩⟩

/-- One state at an edge of the address space: pc is 0xFFFF, and the byte there is 0x00. -/
theorem witness_NoOperationChangesNothing :
    ({ quiet with pc := 0xFFFF } : State).inbox = [] ∧ NoDispatch { quiet with pc := 0xFFFF } ∧
      ({ quiet with pc := 0xFFFF } : State).kindAt 0xFFFF = .ram ∧ ({ quiet with pc := 0xFFFF } : State).byteAt 0xFFFF = 0x00 :=
  ⟨rfl, Or.inl rfl, rfl, by decide⟩

theorem witness_UndefinedHaltAndStopAreNoOperations :
    (Instr.halt, (0x76 : Byte)) ∈ [(Instr.halt, (0x76 : Byte)), (.stop, 0x10)] ∧
      (Instr.undef_FD, (0xFD : Byte)) ∈ [(Instr.undef_FC, (0xFC : Byte)), (.undef_FD, 0xFD)] := by decide

theorem witness_DecodeInvertsEncode : (Instr.jp_a16 0xFFFF).wf = true := by decide

theorem witness_EncodingIsPrefixFree : encode (.ld_B_d8 0xFF) <+: encode (.ld_B_d8 0xFF) := List.prefix_refl _

theorem witness_StepRunsTheDecodedInstruction :
    NoDispatch quiet.environment ∧
      (∀ k < (encode .nop).length, quiet.environment.kindAt (quiet.environment.pc + BitVec.ofNat 16 k) = .ram ∨
        quiet.environment.kindAt (quiet.environment.pc + BitVec.ofNat 16 k) = .rom) ∧
      decode [quiet.environment.byteAt quiet.environment.pc, quiet.environment.byteAt (quiet.environment.pc + 1),
        quiet.environment.byteAt (quiet.environment.pc + 2)] = .ok (.nop, [0x00, 0x00]) :=
  ⟨quiet_noDispatch, fun _ _ => Or.inl rfl, by rfl⟩

theorem witness_StepFetchesThroughTheFacade : NoDispatch quiet.environment := quiet_noDispatch

theorem witness_StepKeepsInvariant : quiet.Inv ∧ ∃ t, step quiet = .next t := ⟨by decide, ⟨_, rfl⟩⟩

theorem witness_DispatchSequence : Dispatches 0 ringing.environment := ringing_dispatches

theorem witness_DispatchExactlyWhenGateAndRequest :
    (ringing.environment.IME = true ∧ ringing.environment.IE &&& ringing.environment.IF &&& 0x1F ≠ 0) ∧
      ¬ (quiet.environment.IME = true ∧ quiet.environment.IE &&& quiet.environment.IF &&& 0x1F ≠ 0) := by decide

theorem witness_OneDispatchLeavesTheRestPending :
    ringing.environment.plainFacade ∧ Dispatches 0 ringing.environment ∧ ∃ t, step ringing = .next t ∧ t.inbox = [] :=
  ⟨ringing_plain, ringing_dispatches, ⟨_, rfl, rfl⟩⟩

theorem witness_WritersOfTheGate : ∃ t, exec .ei quiet = .next t := ⟨_, rfl⟩

theorem witness_InstructionsReachMasksOnlyThroughTheFacade :
    quiet.plainFacade ∧ ∃ t, exec (.ldh_mA8_A 0xFF) quiet = .next t := ⟨quiet_plain, ⟨_, rfl⟩⟩

theorem witness_EnableThenDispatchAtTheNextTick :
    ({ ringing with IME := false } : State).plainFacade ∧ ({ ringing with IME := false } : State).inbox = [] ∧
      ({ ringing with IME := false } : State).IME = false ∧ Dispatches 0 { ringing with IME := true } ∧
      ({ ringing with IME := false } : State).byteAt 0x0100 = 0xFB :=
  ⟨fun _ => Or.inl rfl, rfl, rfl, ringing_dispatches, by decide⟩

/-- The stack here wraps from 0x0000 to 0xFFFF. -/
theorem witness_DispatchThenReturnResumes :
    Dispatches 0 ({ ringing with sp := 0x0001 } : State).environment ∧
      ({ ringing with sp := 0x0001 } : State).environment.kindAt 0x0000 = .ram ∧
      ({ ringing with sp := 0x0001 } : State).environment.kindAt 0xFFFF = .ram :=
  ⟨⟨rfl, by decide, by decide, by decide⟩, rfl, rfl⟩

theorem witness_PushThenPopRestores :
    ({ quiet with sp := 0x0001 } : State).kindAt (0x0001 - 1) = .ram ∧
      ({ quiet with sp := 0x0001 } : State).kindAt (0x0001 - 2) = .ram := ⟨rfl, rfl⟩

theorem witness_CyclesFollowTheCostTable :
    Taken .nop quiet ∧ Taken (.jr_NZ_e8 0x80) quiet ∧ ¬ Taken (.jr_Z_e8 0x80) quiet ∧ condition .nop = none := by
  refine ⟨fun c h => (nomatch h), fun c h => ?_, fun h => ?_, rfl⟩
  · cases h; exact Or.inl ⟨rfl, by decide⟩
  · have hz := h .Z rfl
    simp [CondHolds] at hz
    revert hz; decide

theorem witness_EveryTickCostsOneToSixOrTheDispatchCost :
    NoDispatch quiet.environment ∧ ¬ NoDispatch ringing.environment :=
  ⟨quiet_noDispatch, fun h => h.elim (fun h => nomatch h) (fun h => absurd h (by decide))⟩

theorem witness_StraightLineInstructionsKeepPC :
    isTransfer .halt = false ∧ ∃ t, exec .halt quiet = .next t := ⟨rfl, ⟨_, rfl⟩⟩

theorem witness_SelfJumpIsAFixedPoint :
    (bench [0x18, 0xFE]).inbox = [] ∧ NoDispatch (bench [0x18, 0xFE]) ∧ (bench [0x18, 0xFE]).plainFacade ∧
      (bench [0x18, 0xFE]).byteAt 0x0100 = 0x18 ∧ (bench [0x18, 0xFE]).byteAt 0x0101 = 0xFE :=
  ⟨rfl, Or.inl rfl, fun _ => Or.inl rfl, by decide, by decide⟩

theorem witness_ParametersNeverChange : ∃ t, step quiet = .next t := ⟨_, rfl⟩

/-- Every clause of the facade's lemmas has an address: one of each kind (`FacadeRead`, `FacadeWrite`). -/
theorem witness_facade_kinds :
    (mapped quiet).kindAt 0x0000 = .ram ∧ (mapped quiet).kindAt 0xC001 = .rom ∧ (mapped quiet).kindAt 0xFFFF = .portIE ∧
      (mapped quiet).kindAt 0xFF0F = .portIF ∧ (mapped quiet).kindAt 0xFF07 = .device := by decide

end Sys2Proof.Tests
end

section
/-! ## What every step keeps

One lemma for the meanings of all 511 instructions (`exec_meant`), one for the tick (`step_dispatch_or_exec`); from the
two follow the statements of the scope: the core is total, and no step touches the parameters. -/

namespace Sys2Proof.Machine

/-! ### The meanings, all at once -/

/-- The gate after an instruction's meaning: DI, EI and RETI write it, no other instruction does (R164). -/
def gateAfter (i : Instr) (s : State) : Bool :=
  match i with
  | .di => false
  | .ei | .reti => true
  | _ => s.IME

/-- `Taken` as the machine computes it. -/
def takenIn (i : Instr) (s : State) : Bool := (condition i).all s.cond

theorem takenIn_iff (i : Instr) (s : State) : takenIn i s = true ↔ Taken i s := by
  unfold takenIn Taken
  cases condition i <;> simp [condHolds_iff]

/-- The machine cycles that a meaning charges: those of the cost table, less one for each fetched byte. -/
def chargedCycles (taken : Bool) (i : Instr) : Byte :=
  BitVec.ofNat 8 (tableCycles taken i - (encode i).length)

/-- No row of the table costs less than the fetch of its bytes, so the subtraction is exact. -/
theorem encode_length_le_tableCycles (taken : Bool) (i : Instr) : (encode i).length ≤ tableCycles taken i := by
  cases taken <;> cases i <;> exact Nat.le_of_ble_eq_true rfl

/-- What the meanings of all instructions have in common: from `s` the instruction answers `m` but for the gate,
and `m` is reached by an operation that charges what the table says and, unless it is a transfer, keeps pc. -/
structure Meant (i : Instr) (s m : State) : Prop where
  exec_eq : exec i s = .next { m with IME := gateAfter i s }
  steady  : Steady (chargedCycles (takenIn i s) i) s m
  pc      : isTransfer i = false → m.pc = s.pc

section
variable {i : Instr} {s m : State}

/-- An instruction that does not write the gate answers the state of its operation. -/
theorem exec_eq_of_gateAfter {c : Byte} (he : exec i s = .next m) (h : Steady c s m) (hg : gateAfter i s = s.IME) :
    exec i s = .next { m with IME := gateAfter i s } := by
  rw [he, hg, ← h.gate]

theorem Meant.of_straight {c : Byte} (he : exec i s = .next m) (h : Straight c s m) (hg : gateAfter i s = s.IME)
    (hc : c = chargedCycles (takenIn i s) i) : ∃ m, Meant i s m := by
  subst hc
  exact ⟨m, exec_eq_of_gateAfter he h.toSteady hg, h.toSteady, fun _ => h.pc⟩

theorem Meant.of_transfer {c : Byte} (he : exec i s = .next m) (h : Steady c s m) (hg : gateAfter i s = s.IME)
    (hc : c = chargedCycles (takenIn i s) i) (ht : isTransfer i = true) : ∃ m, Meant i s m := by
  subst hc
  exact ⟨m, exec_eq_of_gateAfter he h hg, h, fun hf => by simp [ht] at hf⟩

/-- A conditional transfer charges by its condition. -/
theorem Meant.of_conditional {c : Cond} {k l : Byte} (hi : condition i = some c) (he : exec i s = .next m)
    (h : Steady (if s.cond c then k else l) s m) (hg : gateAfter i s = s.IME)
    (hk : k = chargedCycles true i) (hl : l = chargedCycles false i) (ht : isTransfer i = true) :
    ∃ m, Meant i s m := by
  have htaken : takenIn i s = s.cond c := by rw [takenIn, hi]; rfl
  refine Meant.of_transfer he h hg ?_ ht
  rw [htaken, hk, hl]
  cases s.cond c <;> rfl

/-- The cost of an instruction is the table's (R189, R190). -/
theorem Meant.costs (h : Meant i s m) : Costs i (tableCycles (takenIn i s) i) s m :=
  Costs.of_cycles _ (Nat.add_sub_of_le (encode_length_le_tableCycles _ i)) h.steady.cycles

end

/-- The meaning of every instruction, by the operation that its arm of `exec` calls. -/
theorem exec_meant (i : Instr) (s : State) : ∃ m, Meant i s m := by
  cases i with
  | nop | stop | halt | undef_D3 | undef_DB | undef_DD | undef_E3 | undef_E4 | undef_EB | undef_EC | undef_ED
  | undef_F4 | undef_FC | undef_FD =>
    exact Meant.of_straight rfl (Straight.refl s) rfl rfl
  | di | ei =>
    exact ⟨s, rfl, Steady.refl s, fun _ => rfl⟩
  | ld_B_d8 | ld_C_d8 | ld_D_d8 | ld_E_d8 | ld_H_d8 | ld_L_d8 | ld_A_d8 | ld_B_B | ld_B_C | ld_B_D | ld_B_E
  | ld_B_H | ld_B_L | ld_B_A | ld_C_B | ld_C_C | ld_C_D | ld_C_E | ld_C_H | ld_C_L | ld_C_A | ld_D_B | ld_D_C
  | ld_D_D | ld_D_E | ld_D_H | ld_D_L | ld_D_A | ld_E_B | ld_E_C | ld_E_D | ld_E_E | ld_E_H | ld_E_L | ld_E_A
  | ld_H_B | ld_H_C | ld_H_D | ld_H_E | ld_H_H | ld_H_L | ld_H_A | ld_L_B | ld_L_C | ld_L_D | ld_L_E | ld_L_H
  | ld_L_L | ld_L_A | ld_A_B | ld_A_C | ld_A_D | ld_A_E | ld_A_H | ld_A_L | ld_A_A =>
    exact Meant.of_straight rfl (Straight.setReg s _ _) rfl rfl
  | ld_A_mBC | ld_A_mDE | ld_B_mHL | ld_C_mHL | ld_D_mHL | ld_E_mHL | ld_H_mHL | ld_L_mHL | ld_A_mHL | ldh_A_mA8
  | ld_A_mC | ld_A_mA16 =>
    exact Meant.of_straight rfl (Straight.loadFrom s _ _) rfl rfl
  | ld_mBC_A | ld_mDE_A | ld_mHL_d8 | ld_mHL_B | ld_mHL_C | ld_mHL_D | ld_mHL_E | ld_mHL_H | ld_mHL_L | ld_mHL_A
  | ldh_mA8_A | ld_mC_A | ld_mA16_A =>
    exact Meant.of_straight rfl (Straight.storeTo s _ _) rfl rfl
  | ld_mHLinc_A | ld_mHLdec_A =>
    exact Meant.of_straight rfl (Straight.storeThenSetHL s _) rfl rfl
  | ld_A_mHLinc | ld_A_mHLdec =>
    exact Meant.of_straight rfl (Straight.loadThenSetHL s _) rfl rfl
  | ld_BC_d16 | ld_DE_d16 | ld_HL_d16 | ld_SP_d16 =>
    exact Meant.of_straight rfl (Straight.setRp s _ _) rfl rfl
  | ld_mA16_SP =>
    exact Meant.of_straight rfl (Straight.memWriteWord s _ _) rfl rfl
  | push_BC | push_DE | push_HL | push_AF =>
    exact Meant.of_straight rfl (Straight.pushWord s _) rfl rfl
  | pop_BC | pop_DE | pop_HL | pop_AF =>
    exact Meant.of_straight rfl (Straight.popPair s _) rfl rfl
  | ld_HL_SPe8 =>
    exact Meant.of_straight rfl (Straight.loadHLFromSP s _) rfl rfl
  | ld_SP_HL =>
    exact Meant.of_straight rfl ((Straight.setSP s _).trans (Straight.internal _ 1)) rfl rfl
  | add_A_B | add_A_C | add_A_D | add_A_E | add_A_H | add_A_L | add_A_mHL | add_A_A | adc_A_B | adc_A_C | adc_A_D
  | adc_A_E | adc_A_H | adc_A_L | adc_A_mHL | adc_A_A | sub_A_B | sub_A_C | sub_A_D | sub_A_E | sub_A_H | sub_A_L
  | sub_A_mHL | sub_A_A | sbc_A_B | sbc_A_C | sbc_A_D | sbc_A_E | sbc_A_H | sbc_A_L | sbc_A_mHL | sbc_A_A
  | and_A_B | and_A_C | and_A_D | and_A_E | and_A_H | and_A_L | and_A_mHL | and_A_A | xor_A_B | xor_A_C | xor_A_D
  | xor_A_E | xor_A_H | xor_A_L | xor_A_mHL | xor_A_A | or_A_B | or_A_C | or_A_D | or_A_E | or_A_H | or_A_L
  | or_A_mHL | or_A_A | cp_A_B | cp_A_C | cp_A_D | cp_A_E | cp_A_H | cp_A_L | cp_A_mHL | cp_A_A =>
    exact Meant.of_straight rfl (Straight.accumulateOpnd s _ _) rfl rfl
  | add_A_d8 | adc_A_d8 | sub_A_d8 | sbc_A_d8 | and_A_d8 | xor_A_d8 | or_A_d8 | cp_A_d8 =>
    exact Meant.of_straight rfl (Straight.accumulate s _ _) rfl rfl
  | inc_B | inc_C | inc_D | inc_E | inc_H | inc_L | inc_mHL | inc_A =>
    exact Meant.of_straight rfl (Straight.incOpnd s _) rfl rfl
  | dec_B | dec_C | dec_D | dec_E | dec_H | dec_L | dec_mHL | dec_A =>
    exact Meant.of_straight rfl (Straight.decOpnd s _) rfl rfl
  | daa =>
    exact Meant.of_straight rfl (Straight.decimalAdjust s) rfl rfl
  | cpl =>
    exact Meant.of_straight rfl ((Straight.setReg s .A _).trans (Straight.setFlags _ _)) rfl rfl
  | scf | ccf =>
    exact Meant.of_straight rfl (Straight.setFlags s _) rfl rfl
  | add_HL_BC | add_HL_DE | add_HL_HL | add_HL_SP =>
    exact Meant.of_straight rfl (Straight.addToHL s _) rfl rfl
  | inc_BC | dec_BC | inc_DE | dec_DE | inc_HL | dec_HL | inc_SP | dec_SP =>
    exact Meant.of_straight rfl ((Straight.setRp s _ _).trans (Straight.internal _ 1)) rfl rfl
  | add_SP_e8 =>
    exact Meant.of_straight rfl (Straight.addToSP s _) rfl rfl
  | rlca | rrca | rla | rra =>
    exact Meant.of_straight rfl (Straight.rotateA s _) rfl rfl
  | rlc_B | rlc_C | rlc_D | rlc_E | rlc_H | rlc_L | rlc_mHL | rlc_A | rrc_B | rrc_C | rrc_D | rrc_E | rrc_H
  | rrc_L | rrc_mHL | rrc_A | rl_B | rl_C | rl_D | rl_E | rl_H | rl_L | rl_mHL | rl_A | rr_B | rr_C | rr_D | rr_E
  | rr_H | rr_L | rr_mHL | rr_A | sla_B | sla_C | sla_D | sla_E | sla_H | sla_L | sla_mHL | sla_A | sra_B | sra_C
  | sra_D | sra_E | sra_H | sra_L | sra_mHL | sra_A | swap_B | swap_C | swap_D | swap_E | swap_H | swap_L
  | swap_mHL | swap_A | srl_B | srl_C | srl_D | srl_E | srl_H | srl_L | srl_mHL | srl_A =>
    exact Meant.of_straight rfl (Straight.rotateOpnd s _ _) rfl rfl
  | bit_0_B | bit_0_C | bit_0_D | bit_0_E | bit_0_H | bit_0_L | bit_0_mHL | bit_0_A | bit_1_B | bit_1_C | bit_1_D
  | bit_1_E | bit_1_H | bit_1_L | bit_1_mHL | bit_1_A | bit_2_B | bit_2_C | bit_2_D | bit_2_E | bit_2_H | bit_2_L
  | bit_2_mHL | bit_2_A | bit_3_B | bit_3_C | bit_3_D | bit_3_E | bit_3_H | bit_3_L | bit_3_mHL | bit_3_A
  | bit_4_B | bit_4_C | bit_4_D | bit_4_E | bit_4_H | bit_4_L | bit_4_mHL | bit_4_A | bit_5_B | bit_5_C | bit_5_D
  | bit_5_E | bit_5_H | bit_5_L | bit_5_mHL | bit_5_A | bit_6_B | bit_6_C | bit_6_D | bit_6_E | bit_6_H | bit_6_L
  | bit_6_mHL | bit_6_A | bit_7_B | bit_7_C | bit_7_D | bit_7_E | bit_7_H | bit_7_L | bit_7_mHL | bit_7_A =>
    exact Meant.of_straight rfl (Straight.testBit s _ _) rfl rfl
  | res_0_B | res_0_C | res_0_D | res_0_E | res_0_H | res_0_L | res_0_mHL | res_0_A | res_1_B | res_1_C | res_1_D
  | res_1_E | res_1_H | res_1_L | res_1_mHL | res_1_A | res_2_B | res_2_C | res_2_D | res_2_E | res_2_H | res_2_L
  | res_2_mHL | res_2_A | res_3_B | res_3_C | res_3_D | res_3_E | res_3_H | res_3_L | res_3_mHL | res_3_A
  | res_4_B | res_4_C | res_4_D | res_4_E | res_4_H | res_4_L | res_4_mHL | res_4_A | res_5_B | res_5_C | res_5_D
  | res_5_E | res_5_H | res_5_L | res_5_mHL | res_5_A | res_6_B | res_6_C | res_6_D | res_6_E | res_6_H | res_6_L
  | res_6_mHL | res_6_A | res_7_B | res_7_C | res_7_D | res_7_E | res_7_H | res_7_L | res_7_mHL | res_7_A =>
    exact Meant.of_straight rfl (Straight.resetBitOpnd s _ _) rfl rfl
  | set_0_B | set_0_C | set_0_D | set_0_E | set_0_H | set_0_L | set_0_mHL | set_0_A | set_1_B | set_1_C | set_1_D
  | set_1_E | set_1_H | set_1_L | set_1_mHL | set_1_A | set_2_B | set_2_C | set_2_D | set_2_E | set_2_H | set_2_L
  | set_2_mHL | set_2_A | set_3_B | set_3_C | set_3_D | set_3_E | set_3_H | set_3_L | set_3_mHL | set_3_A
  | set_4_B | set_4_C | set_4_D | set_4_E | set_4_H | set_4_L | set_4_mHL | set_4_A | set_5_B | set_5_C | set_5_D
  | set_5_E | set_5_H | set_5_L | set_5_mHL | set_5_A | set_6_B | set_6_C | set_6_D | set_6_E | set_6_H | set_6_L
  | set_6_mHL | set_6_A | set_7_B | set_7_C | set_7_D | set_7_E | set_7_H | set_7_L | set_7_mHL | set_7_A =>
    exact Meant.of_straight rfl (Straight.setBitOpnd s _ _) rfl rfl
  | jr_e8 | jp_a16 =>
    exact Meant.of_transfer rfl (Steady.jumpTo s _) rfl rfl rfl
  | jr_NZ_e8 | jr_Z_e8 | jr_NC_e8 | jr_C_e8 | jp_NZ_a16 | jp_Z_a16 | jp_NC_a16 | jp_C_a16 =>
    exact Meant.of_conditional rfl rfl (Steady.jumpIf s _ _) rfl rfl rfl rfl
  | jp_HL =>
    exact Meant.of_transfer rfl (Steady.setPC s _) rfl rfl rfl
  | call_a16 =>
    exact Meant.of_transfer rfl (Steady.callTo s _) rfl rfl rfl
  | call_NZ_a16 | call_Z_a16 | call_NC_a16 | call_C_a16 =>
    exact Meant.of_conditional rfl rfl (Steady.callIf s _ _) rfl rfl rfl rfl
  | rst_00 | rst_08 | rst_10 | rst_18 | rst_20 | rst_28 | rst_30 | rst_38 =>
    exact Meant.of_transfer rfl (Steady.callTo s _) rfl rfl rfl
  | ret =>
    exact Meant.of_transfer rfl (Steady.returnToCaller s) rfl rfl rfl
  | reti =>
    exact ⟨s.returnToCaller, rfl, Steady.returnToCaller s, nofun⟩
  | ret_NZ | ret_Z | ret_NC | ret_C =>
    exact Meant.of_conditional rfl rfl (Steady.returnIf s _) rfl rfl rfl rfl

theorem exec_next (i : Instr) (s : State) : ∃ t, exec i s = .next t :=
  let ⟨_, h⟩ := exec_meant i s
  ⟨_, h.exec_eq⟩

/-! ### The parameters and the count of device answers -/

/-- The parameters are the same, and at least as many device accesses have been answered. -/
structure KeepsParameters (s t : State) : Prop where
  cfg   : t.cfg = s.cfg
  asked : s.asked ≤ t.asked

theorem KeepsParameters.trans {s t u : State} (h : KeepsParameters s t) (k : KeepsParameters t u) :
    KeepsParameters s u :=
  ⟨k.cfg.trans h.cfg, h.asked.trans k.asked⟩

theorem Steady.keepsParameters {c : Byte} {s t : State} (h : Steady c s t) : KeepsParameters s t := ⟨h.cfg, h.asked⟩

theorem State.environment_keepsParameters (s : State) : KeepsParameters s s.environment :=
  have ⟨hcfg, hasked⟩ := s.environment_cfg
  ⟨hcfg, hasked.ge⟩

theorem State.dispatch_keepsParameters (s : State) (n : Source) : KeepsParameters s (s.dispatch n) :=
  have hpush := Straight.pushBytes { s with IME := false, IF := s.IF &&& ~~~ n.mask } s.pc
  ⟨hpush.cfg, hpush.asked⟩

theorem exec_keepsParameters {i : Instr} {s t : State} (h : exec i s = .next t) : KeepsParameters s t := by
  obtain ⟨m, hm⟩ := exec_meant i s
  obtain rfl : { m with IME := gateAfter i s } = t := by simpa [hm.exec_eq] using h
  exact ⟨hm.steady.cfg, hm.steady.asked⟩

/-! ### The step -/

/-- What a step can do, once the environment has moved: dispatch a source, or run the fetched instruction. -/
theorem step_dispatch_or_exec (s : State) :
    (∃ n, step s = .next (s.environment.beginTick.dispatch n)) ∨
      step s = exec s.environment.beginTick.fetchInstr.1 s.environment.beginTick.fetchInstr.2 := by
  cases hsel : s.environment.selected with
  | some n => exact .inl ⟨n, tick_of_selected hsel⟩
  | none => exact .inr (tick_of_noDispatch ((State.selected_eq_none _).1 hsel))

theorem step_next (s : State) : ∃ t, step s = .next t := by
  obtain ⟨n, h⟩ | h := step_dispatch_or_exec s
  · exact ⟨_, h⟩
  · rw [h]; exact exec_next _ _

theorem step_keepsParameters {s t : State} (h : step s = .next t) : KeepsParameters s t := by
  have hbegin : KeepsParameters s s.environment.beginTick :=
    s.environment_keepsParameters.trans ⟨rfl, le_rfl⟩
  obtain ⟨n, hd⟩ | he := step_dispatch_or_exec s
  · obtain rfl : s.environment.beginTick.dispatch n = t := by simpa [hd] using h
    exact hbegin.trans (State.dispatch_keepsParameters _ n)
  · have hfetch := (Steady.fetchInstr s.environment.beginTick).keepsParameters
    exact (hbegin.trans hfetch).trans (exec_keepsParameters (he ▸ h))

/-! ### The obligations -/

/-- Settles O42: a dispatch always answers a state, and so does every instruction's meaning. -/
theorem stepNeverStops : Obligations.StepNeverStops := ⟨step_next, exec_next⟩

/-- Settles O60: the environment, a dispatch, the fetch and every meaning keep the parameters. -/
theorem parametersNeverChange : Obligations.ParametersNeverChange := by
  intro s t h
  obtain ⟨hcfg, hasked⟩ := step_keepsParameters h
  exact ⟨hcfg, hasked⟩

end Sys2Proof.Machine
end

section
/-! ## The length of what the decoder reads (R52)

The encoding of a decoded instruction has as many bytes as its first byte asks for, whatever the operands
(`length_encode_decodeBytes`): the builders of the families first, then the decoder. -/

namespace Sys2Proof

@[simp] theorem length_encode_ldRpD16 (p : RP) (w : Word) : (encode (.ldRpD16 p w)).length = 3 := by cases p <;> rfl
@[simp] theorem length_encode_ldRD8 (r : R8) (v : Byte) : (encode (.ldRD8 r v)).length = 2 := by cases r <;> rfl
@[simp] theorem length_encode_ldRR (d r : R8) : (encode (.ldRR d r)).length = 1 := by cases d <;> cases r <;> rfl
@[simp] theorem length_encode_ldRM (d : R8) : (encode (.ldRM d)).length = 1 := by cases d <;> rfl
@[simp] theorem length_encode_ldMR (r : R8) : (encode (.ldMR r)).length = 1 := by cases r <;> rfl
@[simp] theorem length_encode_push (q : RQ) : (encode (.push q)).length = 1 := by cases q <;> rfl
@[simp] theorem length_encode_pop (q : RQ) : (encode (.pop q)).length = 1 := by cases q <;> rfl
@[simp] theorem length_encode_addHL (p : RP) : (encode (.addHL p)).length = 1 := by cases p <;> rfl
@[simp] theorem length_encode_incRp (p : RP) : (encode (.incRp p)).length = 1 := by cases p <;> rfl
@[simp] theorem length_encode_decRp (p : RP) : (encode (.decRp p)).length = 1 := by cases p <;> rfl
@[simp] theorem length_encode_aluD8 (op : AluOp) (v : Byte) : (encode (.aluD8 op v)).length = 2 := by cases op <;> rfl
@[simp] theorem length_encode_jpCc (c : Cond) (w : Word) : (encode (.jpCc c w)).length = 3 := by cases c <;> rfl
@[simp] theorem length_encode_jrCc (c : Cond) (v : Byte) : (encode (.jrCc c v)).length = 2 := by cases c <;> rfl
@[simp] theorem length_encode_callCc (c : Cond) (w : Word) : (encode (.callCc c w)).length = 3 := by cases c <;> rfl
@[simp] theorem length_encode_retCc (c : Cond) : (encode (.retCc c)).length = 1 := by cases c <;> rfl
@[simp] theorem length_encode_rst (y : Fin 8) : (encode (.rst y)).length = 1 := by fin_cases y <;> rfl

@[simp] theorem length_encode_inc (o : Opnd) : (encode (.inc o)).length = 1 := by
  cases o with
  | reg r => cases r <;> rfl
  | mHL => rfl

@[simp] theorem length_encode_dec (o : Opnd) : (encode (.dec o)).length = 1 := by
  cases o with
  | reg r => cases r <;> rfl
  | mHL => rfl

@[simp] theorem length_encode_alu (op : AluOp) (o : Opnd) : (encode (.alu op o)).length = 1 := by
  cases o with
  | reg r => cases op <;> cases r <;> rfl
  | mHL => cases op <;> rfl

@[simp] theorem length_encode_rot (op : RotOp) (o : Opnd) : (encode (.rot op o)).length = 2 := by
  cases o with
  | reg r => cases op <;> cases r <;> rfl
  | mHL => cases op <;> rfl

@[simp] theorem length_encode_bit (b : Fin 8) (o : Opnd) : (encode (.bit b o)).length = 2 := by
  cases o with
  | reg r => fin_cases b <;> cases r <;> rfl
  | mHL => fin_cases b <;> rfl

@[simp] theorem length_encode_res (b : Fin 8) (o : Opnd) : (encode (.res b o)).length = 2 := by
  cases o with
  | reg r => fin_cases b <;> cases r <;> rfl
  | mHL => fin_cases b <;> rfl

@[simp] theorem length_encode_set (b : Fin 8) (o : Opnd) : (encode (.set b o)).length = 2 := by
  cases o with
  | reg r => fin_cases b <;> cases r <;> rfl
  | mHL => fin_cases b <;> rfl

/-! ### The decoder, a quadrant at a time -/

theorem fieldY_lt (b : Byte) : fieldY b < 8 := Nat.mod_lt _ (by decide)

theorem fieldP_eq (b : Byte) : fieldP b = fieldY b / 2 := by unfold fieldP fieldY; omega

theorem fieldQ_eq (b : Byte) : fieldQ b = fieldY b % 2 := by unfold fieldQ fieldY; omega

theorem length_encode_decodeX0 {b : Byte} (hx : fieldX b = 0) (d : Byte) (w : Word) :
    (encode (decodeX0 b d w)).length = instrLength b := by
  have hy := fieldY_lt b
  unfold decodeX0 instrLength
  rw [hx, fieldP_eq, fieldQ_eq]
  generalize fieldY b = y, fieldZ b = z at *
  match z, y with
  | _, y + 8 => omega
  | 0, 0 | 0, 1 | 0, 2 | 0, 3 => rfl
  | 0, 4 | 0, 5 | 0, 6 | 0, 7 => exact length_encode_jrCc _ _
  | 1, 0 | 1, 2 | 1, 4 | 1, 6 => simp [length_encode_ldRpD16]
  | 1, 1 | 1, 3 | 1, 5 | 1, 7 => simp [length_encode_addHL]
  | 2, 0 | 2, 1 | 2, 2 | 2, 3 | 2, 4 | 2, 5 | 2, 6 | 2, 7 => rfl
  | 3, 0 | 3, 2 | 3, 4 | 3, 6 => simp [length_encode_incRp]
  | 3, 1 | 3, 3 | 3, 5 | 3, 7 => simp [length_encode_decRp]
  | 4, _ => exact length_encode_inc _
  | 5, _ => exact length_encode_dec _
  | 6, 6 => rfl
  | 6, 0 | 6, 1 | 6, 2 | 6, 3 | 6, 4 | 6, 5 | 6, 7 => exact length_encode_ldRD8 _ _
  | z + 7, 0 | z + 7, 1 | z + 7, 2 | z + 7, 3 | z + 7, 4 | z + 7, 5 | z + 7, 6 | z + 7, 7 => rfl

theorem length_encode_decodeX1 {b : Byte} (hx : fieldX b = 1) :
    (encode (decodeX1 b)).length = instrLength b := by
  have hlength : instrLength b = 1 := by unfold instrLength; rw [hx]; rfl
  rw [hlength]
  unfold decodeX1
  split
  · exact length_encode_ldRR _ _
  · exact length_encode_ldRM _
  · exact length_encode_ldMR _
  · rfl

/-- The one byte of quadrant x = 3 that is no opcode of the base table (R49). -/
theorem eq_prefixByte_of_fields {b : Byte} (hx : fieldX b = 3) (hy : fieldY b = 1) (hz : fieldZ b = 3) :
    b = prefixByte := by
  apply BitVec.eq_of_toNat_eq
  unfold fieldX at hx
  unfold fieldY at hy
  unfold fieldZ at hz
  show b.toNat = 203
  omega

theorem length_encode_decodeX3 {b : Byte} (hx : fieldX b = 3) (hb : b ≠ prefixByte) (d : Byte) (w : Word) :
    (encode (decodeX3 b d w)).length = instrLength b := by
  have hy := fieldY_lt b
  have hyz : ¬ (fieldY b = 1 ∧ fieldZ b = 3) := fun h => hb (eq_prefixByte_of_fields hx h.1 h.2)
  unfold decodeX3 instrLength
  rw [hx, fieldP_eq, fieldQ_eq]
  generalize fieldY b = y, fieldZ b = z at *
  match z, y with
  | _, y + 8 => omega
  | 0, 0 | 0, 1 | 0, 2 | 0, 3 => exact length_encode_retCc _
  | 0, 4 | 0, 5 | 0, 6 | 0, 7 => rfl
  | 1, 0 | 1, 2 | 1, 4 | 1, 6 => exact length_encode_pop _
  | 1, 1 | 1, 3 | 1, 5 | 1, 7 => rfl
  | 2, 0 | 2, 1 | 2, 2 | 2, 3 => exact length_encode_jpCc _ _
  | 2, 4 | 2, 5 | 2, 6 | 2, 7 => rfl
  | 3, 1 => exact absurd ⟨rfl, rfl⟩ hyz
  | 3, 0 | 3, 2 | 3, 3 | 3, 4 | 3, 5 | 3, 6 | 3, 7 => rfl
  | 4, 0 | 4, 1 | 4, 2 | 4, 3 => exact length_encode_callCc _ _
  | 4, 4 | 4, 5 | 4, 6 | 4, 7 => rfl
  | 5, 0 | 5, 2 | 5, 4 | 5, 6 => exact length_encode_push _
  | 5, 1 | 5, 3 | 5, 5 | 5, 7 => rfl
  | 6, _ => exact length_encode_aluD8 _ _
  | z + 7, _ => exact length_encode_rst _

theorem length_encode_decodeBase {b : Byte} (hb : b ≠ prefixByte) (d : Byte) (w : Word) :
    (encode (decodeBase b d w)).length = instrLength b := by
  have hfields : fieldX b = 0 ∨ fieldX b = 1 ∨ fieldX b = 2 ∨ fieldX b = 3 := by
    have := b.isLt
    unfold fieldX
    omega
  unfold decodeBase
  obtain hx | hx | hx | hx := hfields
  · simpa only [hx] using length_encode_decodeX0 hx d w
  · simpa only [hx] using length_encode_decodeX1 hx
  · have hlength : instrLength b = 1 := by unfold instrLength; rw [hx]; rfl
    simp [hx, hlength]
  · simpa only [hx] using length_encode_decodeX3 hx hb d w

theorem length_encode_decodeExtended (b : Byte) : (encode (decodeExtended b)).length = 2 := by
  unfold decodeExtended
  split
  · exact length_encode_rot _ _
  · exact length_encode_bit _ _
  · exact length_encode_res _ _
  · exact length_encode_set _ _

/-- The first byte alone says how long the instruction is (R52). -/
theorem length_encode_decodeBytes (b0 b1 b2 : Byte) : (encode (decodeBytes b0 b1 b2)).length = instrLength b0 := by
  unfold decodeBytes
  split
  · next hb => rw [hb, length_encode_decodeExtended]; rfl
  · next hb => exact length_encode_decodeBase hb _ _

/-- What three bytes decode to, by how many of them the first one asks for. -/
theorem decode_three {b0 b1 b2 : Byte} {i : Instr} {rest : List Byte} (h : decode [b0, b1, b2] = .ok (i, rest)) :
    instrLength b0 = 1 ∧ decodeBytes b0 0 0 = i ∨ instrLength b0 = 2 ∧ decodeBytes b0 b1 0 = i ∨
      instrLength b0 = 3 ∧ decodeBytes b0 b1 b2 = i := by
  obtain hl | hl | hl := Machine.instrLength_cases b0
  · obtain ⟨hi, -⟩ : decodeBytes b0 0 0 = i ∧ [b1, b2] = rest := by simpa [decode, hl] using h
    exact .inl ⟨hl, hi⟩
  · obtain ⟨hi, -⟩ : decodeBytes b0 b1 0 = i ∧ [b2] = rest := by simpa [decode, hl] using h
    exact .inr (.inl ⟨hl, hi⟩)
  · obtain ⟨hi, -⟩ : decodeBytes b0 b1 b2 = i ∧ [] = rest := by simpa [decode, hl] using h
    exact .inr (.inr ⟨hl, hi⟩)

end Sys2Proof
end

section
/-! ## The state between two steps

The invariant `State.Inv` and the frame of the meanings, read off `exec_meant`; then what a step reads of the state it
starts from: nothing of `cycles`, and of the bytes at pc as many as the first one asks for. -/

namespace Sys2Proof.Machine

/-! ### The invariant, and what an instruction leaves unchanged -/

/-- An instruction that answers `t` has reached it by its meaning. -/
theorem Meant.of_exec {i : Instr} {s t : State} (h : exec i s = .next t) :
    ∃ m, Meant i s m ∧ t = { m with IME := gateAfter i s } := by
  obtain ⟨m, hm⟩ := exec_meant i s
  rw [hm.exec_eq] at h
  cases h
  exact ⟨m, hm, rfl⟩

theorem exec_inv {i : Instr} {s t : State} (h : exec i s = .next t) (hs : s.Inv) : t.Inv := by
  obtain ⟨m, hm, rfl⟩ := Meant.of_exec h
  exact hm.steady.inv hs

/-- Settles O43: the environment, a dispatch, the fetch and every meaning keep the invariant. -/
theorem stepKeepsInvariant : Obligations.StepKeepsInvariant := by
  intro s t hs h
  have hbegin : s.environment.beginTick.Inv := State.environment_inv hs
  obtain ⟨n, hd⟩ | he := step_dispatch_or_exec s
  · obtain rfl : s.environment.beginTick.dispatch n = t := by simpa [hd] using h
    exact State.dispatch_inv n hbegin
  · exact exec_inv (he ▸ h) (State.fetchInstr_inv hbegin)

/-- Settles O50: on a plain facade the meaning's accesses are all to stored bytes. -/
theorem instructionsReachMasksOnlyThroughTheFacade : Obligations.InstructionsReachMasksOnlyThroughTheFacade := by
  intro i s t hplain h
  obtain ⟨m, hm, rfl⟩ := Meant.of_exec h
  exact hm.steady.masks hplain

/-- Settles O58: the meaning of an instruction that is no transfer keeps pc, and the gate is not pc. -/
theorem straightLineInstructionsKeepPC : Obligations.StraightLineInstructionsKeepPC := by
  intro i s t hi h
  obtain ⟨m, hm, rfl⟩ := Meant.of_exec h
  exact hm.pc hi

/-! ### Power-on and reset -/

/-- The four bits that a write of F keeps and the four that read as zero have none in common (R12). -/
theorem flagMask_low (v : Byte) : v &&& 0xF0 &&& 0x0F = 0 := by
  rw [BitVec.and_assoc]
  simp

/-- Settles O44: power-on masks F and lists no byte of memory. -/
theorem resetSatisfiesInvariant : Obligations.ResetSatisfiesInvariant :=
  ⟨State.powerOn_inv, State.powerOn_inv _, fun s => flagMask_low s.F, State.writeF_F⟩

@[simp] theorem State.powerOn_IE (p : Params) : (State.powerOn p).IE = 0x00 := rfl
@[simp] theorem State.powerOn_IF (p : Params) : (State.powerOn p).IF = 0x00 := rfl
@[simp] theorem State.powerOn_IME (p : Params) : (State.powerOn p).IME = false := rfl

@[simp] theorem State.applyReset_IE (s : State) : s.applyReset.IE = (State.powerOn s.cfg).IE := rfl
@[simp] theorem State.applyReset_IF (s : State) : s.applyReset.IF = (State.powerOn s.cfg).IF := rfl
@[simp] theorem State.applyReset_IME (s : State) : s.applyReset.IME = (State.powerOn s.cfg).IME := rfl

@[simp] theorem State.applyMove_powerOnReset (s : State) : s.applyMove .powerOnReset = s.applyReset := rfl

/-- Settles O45: a later reset takes the gate and the masks from power-on. -/
theorem resetClosesGateAndClearsMasks : Obligations.ResetClosesGateAndClearsMasks := by
  unfold Obligations.ResetClosesGateAndClearsMasks
  simp

/-! ### No rule reads the counter

`beginTick` forgets the counter, so a state function reads nothing of it when what it answers is, the counter
forgotten, what it answers after `beginTick`. -/

theorem State.beginTick_applyMove (s : State) (m : EnvMove) :
    (s.beginTick.applyMove m).beginTick = (s.applyMove m).beginTick := by
  cases m <;> rfl

theorem State.beginTick_applyMoves (s : State) (moves : List EnvMove) :
    (s.beginTick.applyMoves moves).beginTick = (s.applyMoves moves).beginTick := by
  induction moves generalizing s with
  | nil => rfl
  | cons m rest ih =>
    calc ((s.beginTick.applyMove m).applyMoves rest).beginTick
        = ((s.beginTick.applyMove m).beginTick.applyMoves rest).beginTick := (ih _).symm
      _ = ((s.applyMove m).beginTick.applyMoves rest).beginTick := by rw [State.beginTick_applyMove]
      _ = ((s.applyMove m).applyMoves rest).beginTick := ih _

theorem State.beginTick_environment (s : State) :
    s.beginTick.environment.beginTick = s.environment.beginTick := by
  unfold State.environment
  rw [State.beginTick_inbox]
  split
  · rfl
  · next later _ => exact State.beginTick_applyMoves { s with inbox := later } _

theorem tick_beginTick (s : State) : tick s.beginTick = tick s := rfl

theorem step_beginTick (s : State) : step s.beginTick = step s := by
  unfold step
  rw [← tick_beginTick, State.beginTick_environment, tick_beginTick]

/-- Settles O57: the two states are one once the tick has zeroed the counter. -/
theorem cyclesIsAnOutputOnly : Obligations.CyclesIsAnOutputOnly := by
  intro s c
  rw [← step_beginTick s, ← step_beginTick { s with cycles := c }]
  rfl

/-! ### Fetching stored bytes (R37) -/

/-- The state past `n` fetched bytes, if fetching them has no side effect. -/
def State.past (s : State) (n : Nat) : State :=
  { s with pc := s.pc + BitVec.ofNat 16 n, cycles := s.cycles + BitVec.ofNat 8 n }

/-- One fetch past `n` bytes takes the next one. -/
theorem State.fetch8_past {s : State} {n : Nat}
    (h : s.kindAt (s.pc + BitVec.ofNat 16 n) = .ram ∨ s.kindAt (s.pc + BitVec.ofNat 16 n) = .rom) :
    (s.past n).fetch8 = (s.byteAt (s.pc + BitVec.ofNat 16 n), s.past (n + 1)) := by
  rw [State.fetch8_plain (s := s.past n) h]
  simp [State.past, BitVec.add_assoc, BitVec.ofNat_add, State.byteAt]

/-- The first fetch of all. -/
theorem State.fetch8_eq_past {s : State} (h : s.kindAt s.pc = .ram ∨ s.kindAt s.pc = .rom) :
    s.fetch8 = (s.byteAt s.pc, s.past 1) :=
  State.fetch8_plain h

/-- The fetch of an instruction whose bytes are all stored: what they decode to, past its bytes. -/
theorem State.fetchInstr_of_decode {s : State} {i : Instr} {rest : List Byte}
    (hplain : ∀ k < (encode i).length, s.kindAt (s.pc + BitVec.ofNat 16 k) = .ram ∨
      s.kindAt (s.pc + BitVec.ofNat 16 k) = .rom)
    (hdecode : decode [s.byteAt s.pc, s.byteAt (s.pc + 1), s.byteAt (s.pc + 2)] = .ok (i, rest)) :
    s.fetchInstr = (i, s.past (encode i).length) := by
  obtain ⟨hl, rfl⟩ | ⟨hl, rfl⟩ | ⟨hl, rfl⟩ := decode_three hdecode
  all_goals
    rw [length_encode_decodeBytes, hl] at hplain ⊢
    have h0 : s.fetch8 = (s.byteAt s.pc, s.past 1) := State.fetch8_eq_past (by simpa using hplain 0 (by decide))
  · rw [State.fetchInstr_one (by rw [h0]; exact hl), h0]
  · have h1 := State.fetch8_past (hplain 1 (by decide))
    rw [State.fetchInstr_two (by rw [h0]; exact hl), h0, h1]
    rfl
  · have h1 := State.fetch8_past (hplain 1 (by decide))
    have h2 := State.fetch8_past (hplain 2 (by decide))
    rw [State.fetchInstr_three (by rw [h0]; exact hl), h0, h1, h2]
    rfl

/-- Settles O40: without a dispatch the tick is the fetch, which takes the stored bytes, and exec. -/
theorem stepRunsTheDecodedInstruction : Obligations.StepRunsTheDecodedInstruction := by
  intro s i rest hno hplain hdecode
  have hfetch : s.environment.beginTick.fetchInstr = (i, s.environment.beginTick.past (encode i).length) :=
    State.fetchInstr_of_decode hplain hdecode
  calc step s = exec s.environment.beginTick.fetchInstr.1 s.environment.beginTick.fetchInstr.2 :=
        tick_of_noDispatch hno
    _ = exec i (s.environment.beginTick.past (encode i).length) := by rw [hfetch]
    _ = _ := by simp [State.past, State.beginTick]

end Sys2Proof.Machine
end

section
/-! ## The memory port: the fetch of an instruction, and a push undone by a pop

What the fetch of an instruction reads and charges (R37, R156); the cost of a tick (R170), which is the table's for the
fetched instruction (`exec_fetchInstr_cycles`) or the dispatch's; and that a pop from RAM answers what a push has just
stored there (`State.popWord_pushWord`, R44). -/

namespace Sys2Proof

/-! ### Decoding exactly the bytes that an instruction has -/

theorem decode_of_length_one {b0 : Byte} (h : instrLength b0 = 1) : decode [b0] = .ok (decodeBytes b0 0 0, []) := by
  simp [decode, h]

theorem decode_of_length_two {b0 : Byte} (b1 : Byte) (h : instrLength b0 = 2) :
    decode [b0, b1] = .ok (decodeBytes b0 b1 0, []) := by
  simp [decode, h]

theorem decode_of_length_three {b0 : Byte} (b1 b2 : Byte) (h : instrLength b0 = 3) :
    decode [b0, b1, b2] = .ok (decodeBytes b0 b1 b2, []) := by
  simp [decode, h]

namespace Machine

/-! ### The fetch of an instruction, whatever stands behind pc (R37, R156) -/

/-- Settles O41: the fetch reads as many bytes as the first one asks for, and they decode to what it answers. -/
theorem stepFetchesThroughTheFacade : Obligations.StepFetchesThroughTheFacade := by
  intro s hno
  refine ⟨_, _, tick_of_noDispatch hno, ?_⟩
  generalize s.environment.beginTick = b
  obtain hl | hl | hl := instrLength_cases b.fetch8.1
  · rw [State.fetchInstr_one hl]
    exact .inl ⟨_, b.fetch8_spec, decode_of_length_one hl⟩
  · rw [State.fetchInstr_two hl]
    exact .inr (.inl ⟨_, _, _, b.fetch8_spec, State.fetch8_spec _, decode_of_length_two _ hl⟩)
  · rw [State.fetchInstr_three hl]
    exact .inr (.inr ⟨_, _, _, _, _, b.fetch8_spec, State.fetch8_spec _, State.fetch8_spec _,
      decode_of_length_three _ _ hl⟩)

/-- The fetched instruction has as many bytes as its first one asks for. -/
theorem State.length_encode_fetchInstr (s : State) : (encode s.fetchInstr.1).length = instrLength s.fetch8.1 := by
  obtain hl | hl | hl := instrLength_cases s.fetch8.1
  · rw [State.fetchInstr_one hl]; exact length_encode_decodeBytes _ _ _
  · rw [State.fetchInstr_two hl]; exact length_encode_decodeBytes _ _ _
  · rw [State.fetchInstr_three hl]; exact length_encode_decodeBytes _ _ _

/-- The fetch costs one cycle for each byte of the instruction. -/
theorem State.fetchInstr_cycles (s : State) :
    s.fetchInstr.2.cycles = s.cycles + BitVec.ofNat 8 (encode s.fetchInstr.1).length := by
  rw [State.length_encode_fetchInstr]
  exact (Steady.fetchInstr s).cycles

/-! ### The cost of a tick (R170, R189) -/

theorem one_le_length_encode (i : Instr) : 1 ≤ (encode i).length := by
  cases i <;> exact Nat.le_of_ble_eq_true rfl

theorem tableCycles_le_six (taken : Bool) (i : Instr) : tableCycles taken i ≤ 6 := by
  cases taken <;> cases i <;> exact Nat.le_of_ble_eq_true rfl

/-- The fetch and the meaning together charge what the table says of the fetched instruction. -/
theorem exec_fetchInstr_cycles (s : State) : ∃ t taken, exec s.fetchInstr.1 s.fetchInstr.2 = .next t ∧
    t.cycles = s.cycles + BitVec.ofNat 8 (tableCycles taken s.fetchInstr.1) := by
  obtain ⟨m, hm⟩ := exec_meant s.fetchInstr.1 s.fetchInstr.2
  have hcosts : m.cycles = _ := hm.costs
  refine ⟨_, takenIn s.fetchInstr.1 s.fetchInstr.2, hm.exec_eq, ?_⟩
  rw [hcosts, s.fetchInstr_cycles]
  generalize BitVec.ofNat 8 (encode s.fetchInstr.1).length = fetched
  bv_omega

/-- A tick that does not dispatch costs what the table says of the instruction it has fetched. -/
theorem step_cycles_of_noDispatch {s : State} (hno : NoDispatch s.environment) :
    ∃ t taken i, step s = .next t ∧ t.cycles = BitVec.ofNat 8 (tableCycles taken i) := by
  obtain ⟨t, taken, hexec, hcycles⟩ := exec_fetchInstr_cycles s.environment.beginTick
  exact ⟨t, taken, _, (tick_of_noDispatch hno).trans hexec, by simpa using hcycles⟩

theorem step_cycles_of_dispatch {s : State} (h : ¬ NoDispatch s.environment) :
    ∃ t, step s = .next t ∧ t.cycles = s.environment.cfg.dispatchCycles := by
  rw [← State.selected_eq_none, ← ne_eq, Option.ne_none_iff_exists'] at h
  obtain ⟨n, hn⟩ := h
  obtain ⟨-, -, hcycles, -, -⟩ := s.environment.beginTick.dispatch_spec n
  exact ⟨_, tick_of_selected hn, hcycles⟩

/-- Settles O56: the table's costs, and no other, are from 1 to 6. -/
theorem everyTickCostsOneToSixOrTheDispatchCost : Obligations.EveryTickCostsOneToSixOrTheDispatchCost := by
  intro s
  by_cases hno : NoDispatch s.environment
  · obtain ⟨t, taken, i, hstep, hcycles⟩ := step_cycles_of_noDispatch hno
    have hlow : 1 ≤ tableCycles taken i := (one_le_length_encode i).trans (encode_length_le_tableCycles taken i)
    have hhigh := tableCycles_le_six taken i
    have hnat : t.cycles.toNat = tableCycles taken i := by
      rw [hcycles, BitVec.toNat_ofNat]
      omega
    exact ⟨t, hstep, fun _ => by rw [hnat]; exact ⟨hlow, hhigh⟩, fun h => absurd hno h⟩
  · obtain ⟨t, hstep, hcycles⟩ := step_cycles_of_dispatch hno
    exact ⟨t, hstep, fun h => absurd h hno, fun _ => hcycles⟩

/-! ### A pop after a push (R44) -/

/-- What stands behind an address is a matter of the parameters alone. -/
theorem State.kindAt_eq_of_cfg {s t : State} (h : t.cfg = s.cfg) (a : Word) : t.kindAt a = s.kindAt a := by
  unfold State.kindAt
  rw [h]

/-- The two bytes of a word pushed onto RAM. -/
theorem Pushed.stored {v : Word} {s t : State} (h : Pushed v s t) (hhi : s.kindAt (s.sp - 1) = .ram)
    (hlo : s.kindAt (s.sp - 2) = .ram) : t.byteAt (s.sp - 1) = hiByte v ∧ t.byteAt (s.sp - 2) = loByte v := by
  obtain ⟨m, hfirst, hsecond⟩ := h.writes
  have hne : s.sp - 1 ≠ s.sp - 2 := by bv_omega
  constructor
  · rw [hsecond.others _ hne, hfirst.stored hhi]
  · exact hsecond.stored ((State.kindAt_eq_of_cfg hfirst.cfg _).trans hlo)

/-- The word popped from RAM. -/
theorem Popped.word_eq {v : Word} {s t : State} (h : Popped v s t) (hlo : s.kindAt s.sp = .ram)
    (hhi : s.kindAt (s.sp + 1) = .ram) : v = joinBytes (s.byteAt (s.sp + 1)) (s.byteAt s.sp) := by
  obtain ⟨lo, hi, m, hfirst, hsecond, rfl, rfl⟩ := h.reads
  have hhi' : m.kindAt (s.sp + 1) = .ram := (State.kindAt_eq_of_cfg hfirst.cfg _).trans hhi
  rw [← hfirst.plain (.inl hlo), ← hfirst.memory, ← hsecond.plain (.inl hhi'), joinBytes_hi_lo]

/-- A pop right after a push onto RAM answers the word pushed. -/
theorem State.popWord_pushWord {s : State} (v : Word) (hhi : s.kindAt (s.sp - 1) = .ram)
    (hlo : s.kindAt (s.sp - 2) = .ram) : (s.pushWord v).popWord.1 = v := by
  have hsp : s.sp - 2 + 1 = s.sp - 1 := by bv_omega
  obtain ⟨hstoredHi, hstoredLo⟩ := (s.pushWord_spec v).stored hhi hlo
  have hpopped := (s.pushWord v).popWord_spec.word_eq (by simpa using hlo)
    (by rwa [State.pushWord_sp, hsp, State.pushWord_kindAt])
  rw [hpopped, State.pushWord_sp, hsp, hstoredHi, hstoredLo, joinBytes_hi_lo]

@[simp] theorem State.pushWord_rq (s : State) (v : Word) (q : RQ) : (s.pushWord v).rq q = s.rq q := by
  cases q <;> simp [State.rq, State.af]

@[simp] theorem State.popWord_rq (s : State) (q : RQ) : s.popWord.2.rq q = s.rq q := by
  cases q <;> simp [State.rq, State.af]

/-! Writing a pair with what it reads as changes no register, and F only in the four bits that read as zero (R12). -/

theorem State.setRq_rq_reg (s : State) (q : RQ) (r : R8) : (s.setRq q (s.rq q)).reg r = s.reg r := by
  cases q <;> cases r <;> simp [State.setRq, State.rq, State.bc, State.de, State.hl, State.af, State.reg]

theorem State.setRq_rq_readF (s : State) (q : RQ) : (s.setRq q (s.rq q)).readF = s.readF := by
  cases q <;> simp [State.setRq, State.rq, State.af, State.readF, BitVec.and_assoc]

theorem State.setRq_rq_rq (s : State) (q : RQ) : (s.setRq q (s.rq q)).rq q = s.rq q := by
  cases q <;> simp [State.setRq, State.rq, State.af, State.readF, BitVec.and_assoc]

theorem exec_push (q : RQ) (s : State) : exec (.push q) s = .next (s.pushWord (s.rq q)) := by cases q <;> rfl

theorem exec_pop (q : RQ) (s : State) : exec (.pop q) s = .next (s.popWord.2.setRq q s.popWord.1) := by
  cases q <;> rfl

/-- Settles O54: the pop answers the word pushed, which is what the pair still reads as. -/
theorem pushThenPopRestores : Obligations.PushThenPopRestores := by
  intro s q hhi hlo
  let m := s.pushWord (s.rq q)
  have hpushed : Pushed (s.rq q) s m := s.pushWord_spec _
  obtain ⟨hstoredHi, hstoredLo⟩ := hpushed.stored hhi hlo
  have hpop : exec (.pop q) m = .next (m.popWord.2.setRq q (m.popWord.2.rq q)) := by
    rw [exec_pop, State.popWord_pushWord _ hhi hlo]
    simp [m]
  refine ⟨m, _, exec_push q s, hpop, hpushed.sp, hstoredHi, hstoredLo, by simp [m], by simp, ?_, ?_, ?_, ?_, ?_⟩
  · rw [State.setRq_rq_rq]; simp [m]
  · rw [State.setRq_sp, State.popWord_sp, hpushed.sp, BitVec.sub_add_cancel]
  · intro r; rw [State.setRq_rq_reg]; simp [m]
  · rw [State.setRq_rq_readF]; simp [m]
  · intro x hx1 hx2
    rw [State.setRq_byteAt, State.popWord_byteAt, hpushed.others x hx1 hx2]

end Machine
end Sys2Proof
end

section
/-! ## Encoder and decoder are inverse (R45 to R49, R52)

Two directions. Encoding what was decoded (`encode_decodeBytes`): the decoder reads fields and the encoder's rows are
bytes, so each family's encoding is said once as a formula in the selectors' indices. Decoding what was encoded
(`decode_encode_append`): the decoder computes on every row of the encoder, but for the 16-bit operands, whose two bytes
must be joined again. -/

namespace Sys2Proof

open Machine

/-! ### The opcode byte is its fields (R46), and each selector the index it was read from (R23) -/

/-- A byte is the one that its fields make up. -/
theorem opcode_eq (b : Byte) {n : Nat} (h : 64 * fieldX b + 8 * fieldY b + fieldZ b = n) : BitVec.ofNat 8 n = b := by
  subst h
  apply BitVec.eq_of_toNat_eq
  have := b.isLt
  unfold fieldX fieldY fieldZ
  rw [BitVec.toNat_ofNat]
  omega

theorem fieldZ_lt (b : Byte) : fieldZ b < 8 := Nat.mod_lt _ (by decide)

theorem fieldX_cases (b : Byte) : fieldX b = 0 ∨ fieldX b = 1 ∨ fieldX b = 2 ∨ fieldX b = 3 := by
  have := b.isLt
  unfold fieldX
  omega

theorem Opnd.index_ofIndex : ∀ {n : Nat}, n < 8 → (Opnd.ofIndex n).index = n := by decide
theorem AluOp.index_ofIndex : ∀ {n : Nat}, n < 8 → (AluOp.ofIndex n).index = n := by decide
theorem RotOp.index_ofIndex : ∀ {n : Nat}, n < 8 → (RotOp.ofIndex n).index = n := by decide
theorem RP.index_ofIndex : ∀ {n : Nat}, n < 4 → (RP.ofIndex n).index = n := by decide
theorem RQ.index_ofIndex : ∀ {n : Nat}, n < 4 → (RQ.ofIndex n).index = n := by decide
theorem Cond.index_ofIndex : ∀ {n : Nat}, n < 4 → (Cond.ofIndex n).index = n := by decide

theorem fieldY8_val (b : Byte) : (fieldY8 b).val = fieldY b := Nat.mod_eq_of_lt (fieldY_lt b)

/-! ### The bytes of each family (R48, R49) -/

theorem encode_ldRpD16 (p : RP) (w : Word) :
    encode (.ldRpD16 p w) = [BitVec.ofNat 8 (0x01 + 16 * p.index), loByte w, hiByte w] := by cases p <;> rfl
theorem encode_ldRD8 (r : R8) (v : Byte) : encode (.ldRD8 r v) = [BitVec.ofNat 8 (0x06 + 8 * r.index), v] := by
  cases r <;> rfl
theorem encode_ldRR (d r : R8) : encode (.ldRR d r) = [BitVec.ofNat 8 (0x40 + 8 * d.index + r.index)] := by
  cases d <;> cases r <;> rfl
theorem encode_ldRM (d : R8) : encode (.ldRM d) = [BitVec.ofNat 8 (0x46 + 8 * d.index)] := by cases d <;> rfl
theorem encode_ldMR (r : R8) : encode (.ldMR r) = [BitVec.ofNat 8 (0x70 + r.index)] := by cases r <;> rfl
theorem encode_push (q : RQ) : encode (.push q) = [BitVec.ofNat 8 (0xC5 + 16 * q.index)] := by cases q <;> rfl
theorem encode_pop (q : RQ) : encode (.pop q) = [BitVec.ofNat 8 (0xC1 + 16 * q.index)] := by cases q <;> rfl
theorem encode_addHL (p : RP) : encode (.addHL p) = [BitVec.ofNat 8 (0x09 + 16 * p.index)] := by cases p <;> rfl
theorem encode_incRp (p : RP) : encode (.incRp p) = [BitVec.ofNat 8 (0x03 + 16 * p.index)] := by cases p <;> rfl
theorem encode_decRp (p : RP) : encode (.decRp p) = [BitVec.ofNat 8 (0x0B + 16 * p.index)] := by cases p <;> rfl
theorem encode_aluD8 (op : AluOp) (v : Byte) : encode (.aluD8 op v) = [BitVec.ofNat 8 (0xC6 + 8 * op.index), v] := by
  cases op <;> rfl
theorem encode_jpCc (c : Cond) (w : Word) :
    encode (.jpCc c w) = [BitVec.ofNat 8 (0xC2 + 8 * c.index), loByte w, hiByte w] := by cases c <;> rfl
theorem encode_jrCc (c : Cond) (v : Byte) : encode (.jrCc c v) = [BitVec.ofNat 8 (0x20 + 8 * c.index), v] := by
  cases c <;> rfl
theorem encode_callCc (c : Cond) (w : Word) :
    encode (.callCc c w) = [BitVec.ofNat 8 (0xC4 + 8 * c.index), loByte w, hiByte w] := by cases c <;> rfl
theorem encode_retCc (c : Cond) : encode (.retCc c) = [BitVec.ofNat 8 (0xC0 + 8 * c.index)] := by cases c <;> rfl
theorem encode_rst (y : Fin 8) : encode (.rst y) = [BitVec.ofNat 8 (0xC7 + 8 * y.val)] := by fin_cases y <;> rfl

theorem encode_inc (o : Opnd) : encode (.inc o) = [BitVec.ofNat 8 (0x04 + 8 * o.index)] := by
  cases o with
  | reg r => cases r <;> rfl
  | mHL => rfl

theorem encode_dec (o : Opnd) : encode (.dec o) = [BitVec.ofNat 8 (0x05 + 8 * o.index)] := by
  cases o with
  | reg r => cases r <;> rfl
  | mHL => rfl

theorem encode_alu (op : AluOp) (o : Opnd) :
    encode (.alu op o) = [BitVec.ofNat 8 (0x80 + 8 * op.index + o.index)] := by
  cases o with
  | reg r => cases op <;> cases r <;> rfl
  | mHL => cases op <;> rfl

theorem encode_rot (op : RotOp) (o : Opnd) :
    encode (.rot op o) = [prefixByte, BitVec.ofNat 8 (8 * op.index + o.index)] := by
  cases o with
  | reg r => cases op <;> cases r <;> rfl
  | mHL => cases op <;> rfl

theorem encode_bit (b : Fin 8) (o : Opnd) :
    encode (.bit b o) = [prefixByte, BitVec.ofNat 8 (0x40 + 8 * b.val + o.index)] := by
  cases o with
  | reg r => fin_cases b <;> cases r <;> rfl
  | mHL => fin_cases b <;> rfl

theorem encode_res (b : Fin 8) (o : Opnd) :
    encode (.res b o) = [prefixByte, BitVec.ofNat 8 (0x80 + 8 * b.val + o.index)] := by
  cases o with
  | reg r => fin_cases b <;> cases r <;> rfl
  | mHL => fin_cases b <;> rfl

theorem encode_set (b : Fin 8) (o : Opnd) :
    encode (.set b o) = [prefixByte, BitVec.ofNat 8 (0xC0 + 8 * b.val + o.index)] := by
  cases o with
  | reg r => fin_cases b <;> cases r <;> rfl
  | mHL => fin_cases b <;> rfl

/-! ### Encoding what was decoded, a quadrant at a time

`lo` and `hi` are the two bytes after the opcode `b`: encoding gives back as many of the three as the opcode asks for.
In a quadrant's proof, `hb` makes the opcode byte of a row from its fields; a row of one family goes by the family's
formula, and a row with an instruction of its own for each `y` by evaluation. -/

/-- The 16-bit operand that is decoded low byte first is encoded so (R47). -/
theorem opcode_word_joinBytes (b lo hi : Byte) :
    [b, loByte (joinBytes hi lo), hiByte (joinBytes hi lo)] = [b, lo, hi] := by
  rw [loByte_joinBytes, hiByte_joinBytes]

theorem Opnd.index_eq_of_ofIndex {n : Nat} {o : Opnd} (h : Opnd.ofIndex n = o) (hn : n < 8) : o.index = n := by
  rw [← h, Opnd.index_ofIndex hn]

theorem R8.index_eq_of_ofIndex {n : Nat} {r : R8} (h : Opnd.ofIndex n = .reg r) (hn : n < 8) : r.index = n :=
  Opnd.index_eq_of_ofIndex h hn

theorem encode_decodeX0 {b : Byte} (hx : fieldX b = 0) (lo hi : Byte) :
    encode (decodeX0 b lo (joinBytes hi lo)) = [b, lo, hi].take (instrLength b) := by
  have hy := fieldY_lt b
  have hz := fieldZ_lt b
  have hb {n : Nat} (hn : 64 * fieldX b + 8 * fieldY b + fieldZ b = n) : BitVec.ofNat 8 n = b := opcode_eq b hn
  unfold decodeX0 instrLength
  rw [hx] at hb ⊢
  rw [fieldP_eq, fieldQ_eq]
  generalize fieldY b = y, fieldZ b = z at *
  match z with
  | 0 =>
    match y with
    | 0 | 2 | 3 => obtain rfl := hb rfl; rfl
    | 1 => obtain rfl := hb rfl; exact opcode_word_joinBytes _ lo hi
    | y + 4 => simp (disch := omega) [encode_jrCc, Cond.index_ofIndex, hb]
  | 1 =>
    obtain ⟨p, rfl | rfl⟩ := y.even_or_odd'
    · simp (disch := omega) [encode_ldRpD16, RP.index_ofIndex, hb]
    · simp (disch := omega) [encode_addHL, RP.index_ofIndex, hb]
  | 2 =>
    match y with
    | 0 | 1 | 2 | 3 | 4 | 5 | 6 | 7 => obtain rfl := hb rfl; rfl
  | 3 =>
    obtain ⟨p, rfl | rfl⟩ := y.even_or_odd'
    · simp (disch := omega) [encode_incRp, RP.index_ofIndex, hb]
    · simp (disch := omega) [encode_decRp, RP.index_ofIndex, hb]
  | 4 => simp (disch := omega) [encode_inc, Opnd.index_ofIndex, hb]
  | 5 => simp (disch := omega) [encode_dec, Opnd.index_ofIndex, hb]
  | 6 =>
    match ho : Opnd.ofIndex y with
    | .reg r => simp (disch := omega) [encode_ldRD8, R8.index_eq_of_ofIndex ho hy, hb]
    | .mHL =>
      obtain rfl : 6 = y := Opnd.index_eq_of_ofIndex ho hy
      obtain rfl := hb rfl; rfl
  | 7 =>
    match y with
    | 0 | 1 | 2 | 3 | 4 | 5 | 6 | 7 => obtain rfl := hb rfl; rfl

theorem encode_decodeX1 {b : Byte} (hx : fieldX b = 1) : encode (decodeX1 b) = [b] := by
  have hy := fieldY_lt b
  have hz := fieldZ_lt b
  unfold decodeX1
  split
  · next d r hd hr =>
    rw [encode_ldRR, R8.index_eq_of_ofIndex hd hy, R8.index_eq_of_ofIndex hr hz, opcode_eq b (by omega)]
  · next d hd hr =>
    have hr : 6 = fieldZ b := Opnd.index_eq_of_ofIndex hr hz
    rw [encode_ldRM, R8.index_eq_of_ofIndex hd hy, opcode_eq b (by omega)]
  · next r hd hr =>
    have hd : 6 = fieldY b := Opnd.index_eq_of_ofIndex hd hy
    rw [encode_ldMR, R8.index_eq_of_ofIndex hr hz, opcode_eq b (by omega)]
  · next hd hr =>
    have hd : 6 = fieldY b := Opnd.index_eq_of_ofIndex hd hy
    have hr : 6 = fieldZ b := Opnd.index_eq_of_ofIndex hr hz
    have hopcode : BitVec.ofNat 8 0x76 = b := opcode_eq b (by omega)
    exact congrArg ([·]) hopcode

theorem encode_decodeX3 {b : Byte} (hx : fieldX b = 3) (hprefix : b ≠ prefixByte) (lo hi : Byte) :
    encode (decodeX3 b lo (joinBytes hi lo)) = [b, lo, hi].take (instrLength b) := by
  have hy := fieldY_lt b
  have hz := fieldZ_lt b
  have hyz : ¬ (fieldY b = 1 ∧ fieldZ b = 3) := fun h => hprefix (eq_prefixByte_of_fields hx h.1 h.2)
  have hb {n : Nat} (hn : 64 * fieldX b + 8 * fieldY b + fieldZ b = n) : BitVec.ofNat 8 n = b := opcode_eq b hn
  have hrst := fieldY8_val b
  unfold decodeX3 instrLength
  rw [hx] at hb ⊢
  rw [fieldP_eq, fieldQ_eq]
  generalize fieldY b = y, fieldZ b = z at *
  match z with
  | 0 =>
    match y with
    | 0 | 1 | 2 | 3 => simp (disch := omega) [encode_retCc, Cond.index_ofIndex, hb]
    | 4 | 5 | 6 | 7 => obtain rfl := hb rfl; rfl
  | 1 =>
    match y with
    | 0 | 2 | 4 | 6 => simp (disch := omega) [encode_pop, RQ.index_ofIndex, hb]
    | 1 | 3 | 5 | 7 => obtain rfl := hb rfl; rfl
  | 2 =>
    match y with
    | 0 | 1 | 2 | 3 => simp (disch := omega) [encode_jpCc, Cond.index_ofIndex, hb]
    | 4 | 6 => obtain rfl := hb rfl; rfl
    | 5 | 7 => obtain rfl := hb rfl; exact opcode_word_joinBytes _ lo hi
  | 3 =>
    match y with
    | 1 => simp at hyz
    | 0 => obtain rfl := hb rfl; exact opcode_word_joinBytes _ lo hi
    | 2 | 3 | 4 | 5 | 6 | 7 => obtain rfl := hb rfl; rfl
  | 4 =>
    match y with
    | 0 | 1 | 2 | 3 => simp (disch := omega) [encode_callCc, Cond.index_ofIndex, hb]
    | 4 | 5 | 6 | 7 => obtain rfl := hb rfl; rfl
  | 5 =>
    match y with
    | 0 | 2 | 4 | 6 => simp (disch := omega) [encode_push, RQ.index_ofIndex, hb]
    | 1 => obtain rfl := hb rfl; exact opcode_word_joinBytes _ lo hi
    | 3 | 5 | 7 => obtain rfl := hb rfl; rfl
  | 6 => simp (disch := omega) [encode_aluD8, AluOp.index_ofIndex, hb]
  | 7 => simp (disch := omega) [encode_rst, hrst, hb]

theorem instrLength_of_middle_quadrant {b : Byte} (hx : fieldX b = 1 ∨ fieldX b = 2) : instrLength b = 1 := by
  unfold instrLength
  obtain hx | hx := hx <;> rw [hx] <;> rfl

theorem encode_decodeBase {b : Byte} (hprefix : b ≠ prefixByte) (lo hi : Byte) :
    encode (decodeBase b lo (joinBytes hi lo)) = [b, lo, hi].take (instrLength b) := by
  have hy := fieldY_lt b
  have hz := fieldZ_lt b
  unfold decodeBase
  obtain hx | hx | hx | hx := fieldX_cases b
  · simpa only [hx] using encode_decodeX0 hx lo hi
  · rw [instrLength_of_middle_quadrant (.inl hx), hx]
    exact encode_decodeX1 hx
  · simp only [hx]
    rw [instrLength_of_middle_quadrant (.inr hx),
      encode_alu, AluOp.index_ofIndex hy, Opnd.index_ofIndex hz, opcode_eq b (by omega)]
    rfl
  · simpa only [hx] using encode_decodeX3 hx hprefix lo hi

theorem encode_decodeExtended (b : Byte) : encode (decodeExtended b) = [prefixByte, b] := by
  have hy := fieldY_lt b
  have hz := fieldZ_lt b
  have ho := Opnd.index_ofIndex hz
  unfold decodeExtended
  obtain hx | hx | hx | hx := fieldX_cases b <;> simp only [hx]
  · rw [encode_rot, RotOp.index_ofIndex hy, ho, opcode_eq b (by omega)]
  · rw [encode_bit, fieldY8_val, ho, opcode_eq b (by omega)]
  · rw [encode_res, fieldY8_val, ho, opcode_eq b (by omega)]
  · rw [encode_set, fieldY8_val, ho, opcode_eq b (by omega)]

/-- The encoding of a decoded instruction is those of its bytes that the first one asks for (R52). -/
theorem encode_decodeBytes (b0 b1 b2 : Byte) :
    encode (decodeBytes b0 b1 b2) = [b0, b1, b2].take (instrLength b0) := by
  unfold decodeBytes
  split
  · next hb => subst hb; exact encode_decodeExtended b1
  · next hb => exact encode_decodeBase hb b1 b2

/-- The decoder takes from three bytes as many as the first one asks for, and encodes back to them. -/
theorem decode_three_split (b0 b1 b2 : Byte) :
    ∃ i, decode [b0, b1, b2] = .ok (i, [b0, b1, b2].drop (instrLength b0)) ∧
      encode i = [b0, b1, b2].take (instrLength b0) := by
  obtain hl | hl | hl := instrLength_cases b0
  · exact ⟨decodeBytes b0 0 0, by simp [decode, hl], by simp [encode_decodeBytes, hl]⟩
  · exact ⟨decodeBytes b0 b1 0, by simp [decode, hl], by simp [encode_decodeBytes, hl]⟩
  · exact ⟨decodeBytes b0 b1 b2, by simp [decode, hl], by simp [encode_decodeBytes, hl]⟩

/-- Settles O38: the decoder splits the three bytes at the length that the first one gives. -/
theorem encodeInvertsDecode : Obligations.EncodeInvertsDecode := by
  intro b0 b1 b2
  obtain ⟨i, hdecode, hencode⟩ := decode_three_split b0 b1 b2
  have hl : 1 ≤ instrLength b0 ∧ instrLength b0 ≤ 3 := by have := instrLength_cases b0; omega
  refine ⟨i, _, hdecode, ?_, ?_, hl.1, hl.2, ?_⟩
  · rw [hencode, List.take_append_drop]
  · rw [hencode, List.length_take]; exact Nat.min_eq_left hl.2
  · rintro rfl; rfl

/-! ### Decoding what was encoded -/

/-- An opcode with a 16-bit operand is read with the two bytes joined, low byte first (R47). -/
theorem decode_word_operand {b : Byte} (hb : b ≠ prefixByte) (hl : instrLength b = 3) (w : Word) (rest : List Byte) :
    decode ([b, loByte w, hiByte w] ++ rest) = .ok (decodeBase b (loByte w) w, rest) := by
  simp [decode, hl, decodeBytes, hb]

/-- The decoder evaluates on the row of every instruction; only the two bytes of a 16-bit operand have to be joined. -/
theorem decode_encode_append (i : Instr) (rest : List Byte) : decode (encode i ++ rest) = .ok (i, rest) := by
  cases i with
  | ld_BC_d16 w | ld_DE_d16 w | ld_HL_d16 w | ld_SP_d16 w | ld_mA16_SP w | ld_mA16_A w | ld_A_mA16 w | jp_a16 w
  | jp_NZ_a16 w | jp_Z_a16 w | jp_NC_a16 w | jp_C_a16 w | call_a16 w | call_NZ_a16 w | call_Z_a16 w | call_NC_a16 w
  | call_C_a16 w => exact decode_word_operand (by decide) rfl w rest
  | _ => rfl

/-- Settles O37: no instruction is ill-formed, and the decoder inverts every row of the encoder. -/
theorem decodeInvertsEncode : Obligations.DecodeInvertsEncode := fun i rest _ => decode_encode_append i rest

theorem decode_encode (i : Instr) : decode (encode i) = .ok (i, []) := by
  simpa using decode_encode_append i []

/-- Settles O39: both instructions are what the longer string decodes to. -/
theorem encodingIsPrefixFree : Obligations.EncodingIsPrefixFree := by
  rintro i j ⟨rest, happend⟩
  have hi : decode (encode j) = .ok (i, rest) := by rw [← happend, decode_encode_append]
  cases hi.symm.trans (decode_encode j)
  rfl

/-- Settles O36: the words are the encodings of the instructions named. -/
theorem sampleWordsDecode : Obligations.SampleWordsDecode :=
  ⟨decode_encode .ld_B_C, decode_encode (.ld_B_d8 0x2A), decode_encode (.ld_HL_d16 0x1234), decode_encode .push_AF,
    decode_encode .adc_A_mHL, decode_encode .add_HL_DE, decode_encode .rra, decode_encode .bit_7_H,
    decode_encode (.call_C_a16 0x2000), decode_encode .halt, decode_encode .set_1_E⟩

end Sys2Proof
end

section
/-! ## The 8-bit loads and stores (R60 to R78)

Each instruction's meaning is one of five operations: a register written, a byte loaded or stored through the facade,
and a load or a store of A after which HL takes a new value. For each operation one lemma says its effect, its frame
and its cost, for whatever instruction has it as its meaning. -/

namespace Sys2Proof.Machine

/-! ### Frames and costs -/

/-- Two steps together change no more than what each of them may change. -/
theorem Keeps.trans_append {a b : List Part} {s t u : State} (h : Keeps b s t) (k : Keeps a t u) :
    Keeps (a ++ b) s u :=
  (h.mono fun _ => List.mem_append_right a).trans (k.mono fun _ => List.mem_append_left b)

theorem State.setReg_keeps (s : State) (r : R8) (v : Byte) : Keeps [.reg r] s (s.setReg r v) := by
  intro p hp
  cases p <;> simp_all [Part.same]

theorem State.setHL_keeps (s : State) (w : Word) : Keeps [.reg .H, .reg .L] s (s.setHL w) := by
  intro p hp
  cases p <;> simp_all [Part.same]

/-- An operation that charges `k` machine cycles makes its instruction's cost, with one cycle for each byte. -/
theorem Straight.costs {i : Instr} {k n : Nat} {s t : State} (h : Straight (BitVec.ofNat 8 k) s t)
    (hn : (encode i).length + k = n) : Costs i n s t :=
  Costs.of_cycles k hn h.cycles

/-! ### What `loadFrom` does -/

theorem loadFrom_reg (s : State) (r : R8) (a : Word) : (loadFrom s r a).reg r = (s.memRead a).1 := by
  simp [loadFrom]

/-- One read at `a`, whose answer is what the register then holds. -/
theorem loadFrom_spec (s : State) (r : R8) (a : Word) : FacadeRead a ((loadFrom s r a).reg r) s (loadFrom s r a) := by
  rw [loadFrom_reg]
  exact (s.memRead_spec a).setReg r _

theorem loadFrom_keeps (s : State) (r : R8) (a : Word) : Keeps (.reg r :: readParts) s (loadFrom s r a) :=
  (s.memRead_keeps a).trans_append (State.setReg_keeps _ r _)

/-! ### The five operations as meanings -/

section
variable {i : Instr} {s : State} {n : Nat}

theorem exists_next_of_loadReg {r : R8} {v : Byte} (he : exec i s = .next (loadReg s r v))
    (hn : (encode i).length = n) :
    ∃ t, exec i s = .next t ∧ t.reg r = v ∧ Keeps [.reg r] s t ∧ Costs i n s t :=
  ⟨_, he, by simp [loadReg], s.setReg_keeps r v, (Straight.setReg s r v).costs (k := 0) hn⟩

theorem exists_next_of_loadFrom {r : R8} {a : Word} (he : exec i s = .next (loadFrom s r a))
    (hn : (encode i).length + 1 = n) :
    ∃ t, exec i s = .next t ∧ FacadeRead a (t.reg r) s t ∧ Keeps (.reg r :: readParts) s t ∧ Costs i n s t :=
  ⟨_, he, loadFrom_spec s r a, loadFrom_keeps s r a, (Straight.loadFrom s r a).costs hn⟩

theorem exists_next_of_storeTo {a : Word} {v : Byte} (he : exec i s = .next (storeTo s a v))
    (hn : (encode i).length + 1 = n) :
    ∃ t, exec i s = .next t ∧ FacadeWrite a v s t ∧ Keeps writeParts s t ∧ Costs i n s t :=
  ⟨_, he, s.memWrite_spec a v, s.memWrite_keeps a v, (Straight.storeTo s a v).costs hn⟩

theorem exists_next_of_loadThenSetHL {w : Word} {m : Nat} (he : exec i s = .next (loadThenSetHL s w))
    (hw : w.toNat = m) (hn : (encode i).length + 1 = n) :
    ∃ t, exec i s = .next t ∧ FacadeRead s.hl t.A s t ∧ t.hl.toNat = m ∧
      Keeps ([.reg .A, .reg .H, .reg .L] ++ readParts) s t ∧ Costs i n s t :=
  have hkeeps := (loadFrom_keeps s .A s.hl).trans_append (State.setHL_keeps _ w)
  ⟨_, he, (loadFrom_spec s .A s.hl).setHL w, by rw [loadThenSetHL, State.setHL_hl, hw],
    hkeeps.mono (by decide), (Straight.loadThenSetHL s w).costs hn⟩

theorem exists_next_of_storeThenSetHL {w : Word} {m : Nat} (he : exec i s = .next (storeThenSetHL s w))
    (hw : w.toNat = m) (hn : (encode i).length + 1 = n) :
    ∃ t, exec i s = .next t ∧ FacadeWrite s.hl s.A s t ∧ t.hl.toNat = m ∧
      Keeps ([.reg .H, .reg .L] ++ writeParts) s t ∧ Costs i n s t :=
  ⟨_, he, (s.memWrite_spec s.hl s.A).setHL w, by rw [storeThenSetHL, State.setHL_hl, hw],
    (s.memWrite_keeps s.hl s.A).trans_append (State.setHL_keeps _ w), (Straight.storeThenSetHL s w).costs hn⟩

end

/-! ### The operation of each family of registers -/

theorem exec_ldRD8 (r : R8) (v : Byte) (s : State) : exec (.ldRD8 r v) s = .next (loadReg s r v) := by
  cases r <;> rfl

theorem exec_ldRR (d r : R8) (s : State) : exec (.ldRR d r) s = .next (loadReg s d (s.reg r)) := by
  cases d <;> cases r <;> rfl

theorem exec_ldRM (r : R8) (s : State) : exec (.ldRM r) s = .next (loadFrom s r s.hl) := by cases r <;> rfl

theorem exec_ldMR (r : R8) (s : State) : exec (.ldMR r) s = .next (storeTo s s.hl (s.reg r)) := by cases r <;> rfl

/-! ### The obligations -/

/-- Settles O1: the register form writes a register, the (HL) form stores at HL. -/
theorem loadByteImmediate : Obligations.LoadByteImmediate := fun s v =>
  ⟨fun r => ⟨encode_ldRD8 r v, exists_next_of_loadReg (exec_ldRD8 r v s) (length_encode_ldRD8 r v)⟩,
    rfl, exists_next_of_storeTo rfl rfl⟩

/-- Settles O2: a register is written with what another one, or the same, holds. -/
theorem moveRegisterToRegister : Obligations.MoveRegisterToRegister := fun s d r =>
  ⟨encode_ldRR d r, exists_next_of_loadReg (exec_ldRR d r s) (length_encode_ldRR d r)⟩

/-- Settles O3: the address is HL of the state before, also where half of HL is the destination. -/
theorem loadAndStoreThroughHL : Obligations.LoadAndStoreThroughHL := by
  intro s r
  have hload : (encode (.ldRM r)).length + 1 = 2 := by rw [length_encode_ldRM]
  have hstore : (encode (.ldMR r)).length + 1 = 2 := by rw [length_encode_ldMR]
  obtain ⟨t, he, hread, hkeeps, hcosts⟩ := exists_next_of_loadFrom (exec_ldRM r s) hload
  exact ⟨⟨encode_ldRM r, t, t.reg r, he, hread, rfl, hkeeps, hcosts⟩,
    encode_ldMR r, exists_next_of_storeTo (exec_ldMR r s) hstore⟩

/-- Settles O4: a store of A, or a load into A, at the pair. -/
theorem loadAndStoreThroughBCAndDE : Obligations.LoadAndStoreThroughBCAndDE := fun _ =>
  ⟨⟨rfl, exists_next_of_storeTo rfl rfl⟩, ⟨rfl, exists_next_of_storeTo rfl rfl⟩,
    ⟨rfl, exists_next_of_loadFrom (r := .A) rfl rfl⟩, ⟨rfl, exists_next_of_loadFrom (r := .A) rfl rfl⟩⟩

/-- Settles O5: the access is at HL of the state before, and HL then takes the next or the previous address. -/
theorem postIncrementAndDecrementOfHL : Obligations.PostIncrementAndDecrementOfHL := by
  intro s
  have hinc : (s.hl + 1).toNat = (s.hl.toNat + 1) % 65536 := BitVec.toNat_add s.hl 1
  have hdec : (s.hl - 1).toNat = (s.hl.toNat + 65535) % 65536 := by
    rw [BitVec.toNat_sub, Nat.add_comm]
    rfl
  exact ⟨⟨rfl, exists_next_of_storeThenSetHL rfl hinc rfl⟩, ⟨rfl, exists_next_of_storeThenSetHL rfl hdec rfl⟩,
    ⟨rfl, exists_next_of_loadThenSetHL rfl hinc rfl⟩, ⟨rfl, exists_next_of_loadThenSetHL rfl hdec rfl⟩⟩

/-- An address of the I/O page as the rules compute it (R73 to R76). -/
theorem ioAddress_eq (v : Byte) : ioAddress v = 0xFF00 + v.setWidth 16 := by
  apply BitVec.eq_of_toNat_eq
  have := v.isLt
  rw [ioAddress, joinBytes_toNat, BitVec.toNat_add, BitVec.toNat_setWidth]
  show 256 * 255 + v.toNat = (65280 + v.toNat % 65536) % 65536
  omega

/-- Settles O6: the accesses are at `ioAddress`. -/
theorem ioPageLoadsAndStores : Obligations.IOPageLoadsAndStores := by
  intro s a8
  rw [← ioAddress_eq a8, ← ioAddress_eq s.C]
  exact ⟨⟨rfl, exists_next_of_storeTo rfl rfl⟩, ⟨rfl, exists_next_of_loadFrom (r := .A) rfl rfl⟩,
    ⟨rfl, exists_next_of_storeTo rfl rfl⟩, ⟨rfl, exists_next_of_loadFrom (r := .A) rfl rfl⟩⟩

/-- Settles O7: a store of A, or a load into A, at the address that the two operand bytes join to. -/
theorem absoluteLoadAndStore : Obligations.AbsoluteLoadAndStore := fun _ lo hi =>
  ⟨⟨opcode_word_joinBytes 0xEA lo hi, exists_next_of_storeTo rfl rfl⟩,
    ⟨opcode_word_joinBytes 0xFA lo hi, exists_next_of_loadFrom (r := .A) rfl rfl⟩⟩

end Sys2Proof.Machine
end

section
/-! ## The 16-bit loads and the stack instructions (R80 to R85)

Each operation's effect and frame, put together from those of the register writes, of the accesses of the memory port
and of the stack; then the two forms of the flags of `SP + e8`. -/

namespace Sys2Proof.Machine

/-! ### Frames -/

theorem State.setBC_keeps (s : State) (w : Word) : Keeps [.reg .B, .reg .C] s (s.setBC w) := by
  intro p hp
  cases p <;> simp_all [Part.same]

theorem State.setDE_keeps (s : State) (w : Word) : Keeps [.reg .D, .reg .E] s (s.setDE w) := by
  intro p hp
  cases p <;> simp_all [Part.same]

theorem State.setAF_keeps (s : State) (w : Word) : Keeps [.reg .A, .F] s (s.setAF w) := by
  intro p hp
  cases p <;> simp_all [Part.same]

theorem State.setFlags_keeps (s : State) (f : Flags) : Keeps [.F] s (s.setFlags f) := by
  intro p hp
  cases p <;> simp_all [Part.same]

theorem State.internal_keeps (s : State) (n : Nat) : Keeps [.cycles] s (s.internal n) := by
  intro p hp
  cases p <;> simp_all [Part.same]

theorem State.setSP_keeps (s : State) (w : Word) : Keeps [.sp] s { s with sp := w } := by
  intro p hp
  cases p with
  | sp => simp at hp
  | memory => exact fun _ => rfl
  | _ => rfl

theorem State.setRp_keeps (s : State) (p : RP) (w : Word) : Keeps (rpParts p) s (s.setRp p w) :=
  match p with
  | .BC => s.setBC_keeps w
  | .DE => s.setDE_keeps w
  | .HL => s.setHL_keeps w
  | .SP => s.setSP_keeps w

theorem State.setRq_keeps (s : State) (q : RQ) (w : Word) : Keeps (rqParts q) s (s.setRq q w) :=
  match q with
  | .BC => s.setBC_keeps w
  | .DE => s.setDE_keeps w
  | .HL => s.setHL_keeps w
  | .AF => s.setAF_keeps w

/-! ### `LD rp,d16` and `LD (a16),SP` -/

theorem exec_ldRpD16 (p : RP) (w : Word) (s : State) : exec (.ldRpD16 p w) s = .next (s.setRp p w) := by
  cases p <;> rfl

/-- Settles O8: the pair is written with the word that the two operand bytes join to. -/
theorem loadPairImmediate : Obligations.LoadPairImmediate := by
  intro s p lo hi
  refine ⟨?_, _, exec_ldRpD16 p _ s, s.setRp_rp p _, ?_, s.setRp_keeps p _, ?_⟩
  · rw [encode_ldRpD16, opcode_word_joinBytes]
  · rw [s.setRp_rp, joinBytes_toNat]
  · exact (Straight.setRp s p _).costs (k := 0) (length_encode_ldRpD16 p _)

theorem State.memWriteWord_keeps (s : State) (a v : Word) : Keeps writeParts s (s.memWriteWord a v) :=
  (s.memWrite_keeps a (loByte v)).trans (State.memWrite_keeps _ (a + 1) (hiByte v))

/-- Settles O9: a word is stored as two bytes, of which each write leaves all but its own address alone. -/
theorem storeStackPointer : Obligations.StoreStackPointer := by
  intro s a
  have hlow : FacadeWrite a (loByte s.sp) s (s.memWrite a (loByte s.sp)) := s.memWrite_spec a _
  have hhigh : FacadeWrite (a + 1) (hiByte s.sp) (s.memWrite a (loByte s.sp)) (s.memWriteWord a s.sp) :=
    State.memWrite_spec _ (a + 1) _
  exact ⟨rfl, _, _, rfl, hlow, hhigh, fun x hx hx' => (hhigh.others x hx').trans (hlow.others x hx),
    s.memWriteWord_keeps a s.sp, (Straight.memWriteWord s a s.sp).costs (k := 2) rfl⟩

/-! ### The stack -/

/-- Settles O10: a push of the pair, which for AF reads the low four bits of F as zero. -/
theorem pushWritesPairBelowStackPointer : Obligations.PushWritesPairBelowStackPointer := by
  intro s q
  have hcosts : Costs (.push q) 4 s (s.pushWord (s.rq q)) :=
    (Straight.pushWord s _).costs (k := 3) (by rw [length_encode_push])
  exact ⟨encode_push q, ⟨_, exec_push q s, s.pushWord_spec _, s.pushWord_keeps _, hcosts⟩,
    hiByte_joinBytes s.A s.readF, loByte_joinBytes s.A s.readF⟩

theorem State.setRq_rq_of_ne_AF {q : RQ} (hq : q ≠ .AF) (s : State) (w : Word) : (s.setRq q w).rq q = w := by
  cases q with
  | BC => exact s.setBC_bc w
  | DE => exact s.setDE_de w
  | HL => exact s.setHL_hl w
  | AF => contradiction

theorem State.setRq_F_of_ne_AF {q : RQ} (hq : q ≠ .AF) (s : State) (w : Word) : (s.setRq q w).F = s.F := by
  cases q with
  | AF => contradiction
  | _ => rfl

/-- A write of AF takes the four flags from bits 7 to 4 of the word (R11, R12, R13). -/
theorem State.setAF_flagsAre (s : State) (w : Word) :
    FlagsAre (w.getLsbD 7) (w.getLsbD 6) (w.getLsbD 5) (w.getLsbD 4) (s.setAF w) := by
  refine ⟨?_, ?_, ?_, ?_, flagMask_low (loByte w)⟩ <;>
    simp [State.fZ, State.fN, State.fH, State.fC, loByte]

theorem Popped.setRq {v : Word} {s t : State} (q : RQ) (w : Word) (h : Popped v s t) : Popped v s (t.setRq q w) :=
  h.congr rfl (by simp) (SameFacade.refl s) ⟨by simp, by simp, by simp, by simp, by simp, by simp⟩

theorem popPair_keeps (s : State) (q : RQ) : Keeps (.sp :: rqParts q ++ readParts) s (popPair s q) :=
  (s.popWord_keeps.trans_append (State.setRq_keeps _ q s.popWord.1)).mono List.perm_middle.subset

/-- Settles O11: the word popped is written to the pair, and a write of AF masks F. -/
theorem popReadsPairAboveStackPointer : Obligations.PopReadsPairAboveStackPointer := by
  intro s q
  refine ⟨encode_pop q, popPair s q, s.popWord.1, exec_pop q s, s.popWord_spec.setRq q _, ?_, ?_,
    popPair_keeps s q, ?_⟩
  · intro hq
    exact ⟨State.setRq_rq_of_ne_AF hq _ _, (State.setRq_F_of_ne_AF hq _ _).trans s.popWord_F⟩
  · rintro rfl
    exact ⟨State.setAF_A _ _, State.setAF_flagsAre _ _⟩
  · exact (Straight.popPair s q).costs (k := 2) (by rw [length_encode_pop])

/-! ### `SP + e8` and `LD SP,HL` -/

/-- A signed byte and the same byte read as unsigned differ by a multiple of 256. -/
theorem toNat_add_sext16_mod_256 (w : Word) (e : Byte) :
    (w + sext16 e).toNat % 256 = (w.toNat + e.toNat) % 256 := by
  have hsigned : ((w + sext16 e).toNat : Int) = (w.toNat + e.toInt) % 65536 := PlusSigned.sext16 w e
  have he : e.toInt = if 2 * e.toNat < 256 then (e.toNat : Int) else e.toNat - 256 := e.toInt_eq_toNat_cond
  split at he <;> omega

/-- The comparisons of the result with sp are the carries of the unsigned low-nibble and low-byte additions (R84). -/
theorem addSP_flags (sp : Word) (e : Byte) :
    (addSP sp e).2 =
      ⟨false, false, decide (sp.toNat % 16 + e.toNat % 16 > 0xF), decide (sp.toNat % 256 + e.toNat > 0xFF)⟩ := by
  have hlow := toNat_add_sext16_mod_256 sp e
  have he := e.isLt
  have hh : (sp + sext16 e).toNat % 16 < sp.toNat % 16 ↔ sp.toNat % 16 + e.toNat % 16 > 0xF := by omega
  have hc : (sp + sext16 e).toNat % 256 < sp.toNat % 256 ↔ sp.toNat % 256 + e.toNat > 0xFF := by omega
  simp only [addSP, hh, hc]

theorem spFlags_setFlags_addSP (sp : Word) (e : Byte) (s : State) : SPFlags sp e (s.setFlags (addSP sp e).2) :=
  have hflags := addSP_flags sp e
  FlagsAre.of_setFlags s _ rfl rfl (congrArg Flags.h hflags) (congrArg Flags.c hflags)

theorem loadHLFromSP_hl (s : State) (e : Byte) : (loadHLFromSP s e).hl = s.sp + sext16 e := by
  simp [loadHLFromSP, addSP]

theorem loadHLFromSP_flags (s : State) (e : Byte) : (loadHLFromSP s e).flags = (addSP s.sp e).2 := by
  simp [loadHLFromSP]

theorem loadHLFromSP_spFlags (s : State) (e : Byte) : SPFlags s.sp e (loadHLFromSP s e) :=
  (spFlags_setFlags_addSP s.sp e (s.setHL (addSP s.sp e).1)).congr rfl

theorem loadHLFromSP_keeps (s : State) (e : Byte) : Keeps [.reg .H, .reg .L, .F, .cycles] s (loadHLFromSP s e) :=
  have hset := (s.setHL_keeps (addSP s.sp e).1).trans_append (State.setFlags_keeps _ (addSP s.sp e).2)
  (hset.trans_append (State.internal_keeps _ 1)).mono (by decide)

/-- Settles O12: HL takes the sum with its flags, which `addSP` has by comparison and `SPFlags` as carries. -/
theorem transfersBetweenHLAndStackPointer : Obligations.TransfersBetweenHLAndStackPointer := by
  intro s e
  constructor
  · have hl := loadHLFromSP_hl s e
    refine ⟨rfl, loadHLFromSP s e, rfl, ?_, loadHLFromSP_spFlags s e, ?_, ?_, loadHLFromSP_keeps s e,
      (Straight.loadHLFromSP s e).costs (k := 1) rfl⟩
    · rw [hl]; exact PlusSigned.sext16 s.sp e
    · rw [hl]; exact congrArg Flags.h (loadHLFromSP_flags s e)
    · rw [hl]; exact congrArg Flags.c (loadHLFromSP_flags s e)
  · have hkeeps := ((s.setSP_keeps s.hl).trans_append (State.internal_keeps _ 1)).mono (b := [.sp, .cycles]) (by decide)
    have hsteady := (Straight.setSP s s.hl).trans (Straight.internal _ 1)
    exact ⟨rfl, _, rfl, rfl, hkeeps, hsteady.costs (k := 1) rfl⟩

end Sys2Proof.Machine
end

section
/-! ## The 8-bit arithmetic and logic instructions (R90 to R106)

Sums and differences as numbers, with their flags; then the two ways in which an instruction leaves a result: in A and
F (`Accumulated`), and in the operand it was computed from and F (`updateOpnd`). -/

namespace Sys2Proof.Machine

/-! ### Sums and differences as numbers -/

@[simp] theorem bitByte_toNat (c : Bool) : (bitByte c).toNat = c.toNat := by cases c <;> rfl

theorem State.carryIn_eq (s : State) : s.carryIn = s.fC.toNat := by
  unfold State.carryIn
  cases s.fC <;> rfl

/-- The zero flag of a byte, read off its number. -/
theorem byte_beq_zero (r : Byte) : (r == 0) = decide (r.toNat = 0) :=
  decide_eq_decide.mpr BitVec.toNat_eq

theorem add8_toNat (a v : Byte) (c : Bool) : (add8 a v c).1.toNat = (a.toNat + v.toNat + c.toNat) % 256 := by
  simp [add8]

theorem add8_flags (a v : Byte) (c : Bool) :
    (add8 a v c).2 = ⟨decide ((a.toNat + v.toNat + c.toNat) % 256 = 0), false,
      decide (a.toNat % 16 + v.toNat % 16 + c.toNat > 0xF), decide (a.toNat + v.toNat + c.toNat > 0xFF)⟩ := by
  rw [← add8_toNat, ← byte_beq_zero]
  rfl

/-- The difference wraps as the integers' remainder does. -/
theorem sub8_toNat (a v : Byte) (c : Bool) :
    ((sub8 a v c).1.toNat : Int) = ((a.toNat : Int) - v.toNat - c.toNat) % 256 := by
  have ha := a.isLt
  have hv := v.isLt
  have hc := c.toNat_le
  simp only [sub8, BitVec.toNat_sub, bitByte_toNat]
  omega

theorem sub8_flags (a v : Byte) (c : Bool) :
    (sub8 a v c).2 = ⟨decide (((a.toNat : Int) - v.toNat - c.toNat) % 256 = 0), true,
      decide (a.toNat % 16 < v.toNat % 16 + c.toNat), decide (a.toNat < v.toNat + c.toNat)⟩ := by
  have hz : decide (((sub8 a v c).1.toNat : Int) = 0) = ((sub8 a v c).1 == 0) := by
    rw [byte_beq_zero]
    exact decide_eq_decide.mpr Int.natCast_eq_zero
  rw [← sub8_toNat, hz]
  rfl

/-! ### A result left in A and F -/

/-- A holds the byte of the result, and F its flags. -/
def Accumulated (p : Byte × Flags) (t : State) : Prop := t.A = p.1 ∧ FlagsAre p.2.z p.2.n p.2.h p.2.c t

theorem State.setReg_setFlags_accumulated (s : State) (p : Byte × Flags) :
    Accumulated p ((s.setReg .A p.1).setFlags p.2) :=
  ⟨rfl, FlagsAre.setFlags _ p.2⟩

theorem State.setReg_setFlags_keeps (s : State) (r : R8) (p : Byte × Flags) :
    Keeps [.reg r, .F] s ((s.setReg r p.1).setFlags p.2) :=
  ((s.setReg_keeps r p.1).trans_append (State.setFlags_keeps _ p.2)).mono (List.Perm.swap _ _ []).subset

theorem accumulate_accumulated (s : State) (op : AluOp) (v : Byte) :
    Accumulated (alu op s.A v s.fC) (accumulate s op v) :=
  s.setReg_setFlags_accumulated (alu op s.A v s.fC)

theorem accumulate_keeps (s : State) (op : AluOp) (v : Byte) : Keeps [.reg .A, .F] s (accumulate s op v) :=
  s.setReg_setFlags_keeps .A (alu op s.A v s.fC)

/-- The read of the operand at HL changes neither A nor the carry. -/
theorem accumulateOpnd_mHL_accumulated (s : State) (op : AluOp) :
    Accumulated (alu op s.A (s.memRead s.hl).1 s.fC) (accumulateOpnd s op .mHL) := by
  have h := accumulate_accumulated (s.memRead s.hl).2 op (s.memRead s.hl).1
  rwa [State.memRead_A, State.memRead_fC] at h

theorem FacadeRead.accumulate {a : Word} {v : Byte} {s t : State} (op : AluOp) (w : Byte) (h : FacadeRead a v s t) :
    FacadeRead a v s (accumulate t op w) :=
  (h.setReg .A _).setFlags (alu op t.A w t.fC).2

theorem exec_alu (op : AluOp) (o : Opnd) (s : State) : exec (.alu op o) s = .next (accumulateOpnd s op o) := by
  cases o with
  | reg r => cases op <;> cases r <;> rfl
  | mHL => cases op <;> rfl

theorem exec_aluD8 (op : AluOp) (v : Byte) (s : State) : exec (.aluD8 op v) s = .next (accumulate s op v) := by
  cases op <;> rfl

/-- The three operand forms of an operation whose results have the outcome: they differ in the operand alone. -/
theorem AluForms.of_accumulated {op : AluOp} {outcome : Byte → State → State → Prop}
    (h : ∀ v s t, Accumulated (alu op s.A v s.fC) t → outcome v s t) : AluForms op outcome := by
  intro s
  refine ⟨fun r => ⟨encode_alu op (.reg r), ?_⟩, ⟨?_, ?_⟩, fun v => ⟨encode_aluD8 op v, ?_⟩⟩
  · have hcosts := (Straight.accumulate s op (s.reg r)).costs (k := 0) (length_encode_alu op (.reg r))
    exact ⟨_, exec_alu op (.reg r) s, h _ _ _ (accumulate_accumulated s op _), accumulate_keeps s op _, hcosts⟩
  · rw [encode_alu]
    exact congrArg (fun n => [BitVec.ofNat 8 n]) (Nat.add_right_comm 0x80 (8 * op.index) 6)
  · have hread := (s.memRead_spec s.hl).accumulate op (s.memRead s.hl).1
    have hkeeps := (s.memRead_keeps s.hl).trans_append (accumulate_keeps _ op (s.memRead s.hl).1)
    have hcosts := (Straight.accumulateOpnd s op .mHL).costs (i := .alu op .mHL) (k := 1) (n := 2)
      (by rw [length_encode_alu])
    exact ⟨_, _, exec_alu op .mHL s, hread, h _ _ _ (accumulateOpnd_mHL_accumulated s op), hkeeps, hcosts⟩
  · have hcosts := (Straight.accumulate s op v).costs (k := 0) (length_encode_aluD8 op v)
    exact ⟨_, exec_aluD8 op v s, h _ _ _ (accumulate_accumulated s op v), accumulate_keeps s op v, hcosts⟩

/-! ### The outcomes of the rules -/

section
variable {v : Byte} {s t : State}

theorem Accumulated.addOutcome {c : Bool} (h : Accumulated (add8 s.A v c) t) : AddOutcome c.toNat v s t := by
  obtain ⟨hA, hF⟩ := h
  rw [add8_flags] at hF
  exact ⟨by rw [hA, add8_toNat], hF⟩

theorem Accumulated.subOutcome {c : Bool} (h : Accumulated (sub8 s.A v c) t) : SubOutcome c.toNat v s t := by
  obtain ⟨hA, hF⟩ := h
  rw [sub8_flags] at hF
  exact ⟨by rw [hA, sub8_toNat], hF⟩

/-- CP leaves the flags of the difference without the difference. -/
theorem Accumulated.compareOutcome (h : Accumulated (s.A, (sub8 s.A v false).2) t) :
    t.A = s.A ∧ SubFlags 0 v s t := by
  obtain ⟨hA, hF⟩ := h
  rw [sub8_flags] at hF
  exact ⟨hA, hF⟩

theorem Accumulated.logicOutcome {f : Bool → Bool → Bool} {half : Bool} {r : Byte}
    (hr : ∀ i < 8, r.getLsbD i = f (s.A.getLsbD i) (v.getLsbD i))
    (h : Accumulated (r, ⟨r == 0, false, half, false⟩) t) : LogicOutcome f half v s t := by
  obtain ⟨rfl, hF⟩ := h
  exact ⟨hr, hF⟩

end

/-- Settles O13: the sum that A and F take is `add8`'s, with the old carry for ADC. -/
theorem addWithAndWithoutCarry : Obligations.AddWithAndWithoutCarry := by
  refine ⟨.of_accumulated fun v s t h => h.addOutcome (c := false), .of_accumulated fun v s t h => ?_⟩
  rw [s.carryIn_eq]
  exact h.addOutcome

/-- Settles O14: the difference that A and F take is `sub8`'s, with the old carry for SBC and in F alone for CP. -/
theorem subtractAndCompare : Obligations.SubtractAndCompare := by
  refine ⟨.of_accumulated fun v s t h => h.subOutcome (c := false), .of_accumulated fun v s t h => ?_,
    .of_accumulated fun v s t h => h.compareOutcome⟩
  rw [s.carryIn_eq]
  exact h.subOutcome

/-- Settles O15: the bits of the result are the operands' bits, one by one. -/
theorem bitwiseLogic : Obligations.BitwiseLogic :=
  ⟨.of_accumulated fun _ _ _ h => h.logicOutcome fun _ _ => BitVec.getLsbD_and,
    .of_accumulated fun _ _ _ h => h.logicOutcome fun _ _ => BitVec.getLsbD_xor,
    .of_accumulated fun _ _ _ h => h.logicOutcome fun _ _ => BitVec.getLsbD_or⟩

/-! ### An operand updated in place -/

/-- Read the operand, write back what `g` makes of it and of the flags, and leave the flags of `g`. -/
def updateOpnd (g : Byte → Flags → Byte × Flags) (s : State) (o : Opnd) : State :=
  let p := g (s.rd8 o).1 (s.rd8 o).2.flags
  ((s.rd8 o).2.wr8 o p.1).setFlags p.2

theorem updateOpnd_reg (g : Byte → Flags → Byte × Flags) (s : State) (r : R8) :
    updateOpnd g s (.reg r) = (s.setReg r (g (s.reg r) s.flags).1).setFlags (g (s.reg r) s.flags).2 := rfl

/-- The read changes neither HL nor the flags, so the write has the same address. -/
theorem updateOpnd_mHL (g : Byte → Flags → Byte × Flags) (s : State) :
    updateOpnd g s .mHL = ((s.memRead s.hl).2.memWrite s.hl (g (s.memRead s.hl).1 s.flags).1).setFlags
      (g (s.memRead s.hl).1 s.flags).2 := by
  simp [updateOpnd, State.rd8, State.wr8]

theorem updateOpnd_mHL_write (g : Byte → Flags → Byte × Flags) (s : State) :
    FacadeWrite s.hl (g (s.memRead s.hl).1 s.flags).1 (s.memRead s.hl).2 (updateOpnd g s .mHL) := by
  rw [updateOpnd_mHL]
  exact (State.memWrite_spec _ s.hl _).setFlags _

theorem updateOpnd_mHL_keeps (g : Byte → Flags → Byte × Flags) (s : State) :
    Keeps (.F :: writeParts) s (updateOpnd g s .mHL) := by
  have hread : Keeps writeParts s (s.memRead s.hl).2 := (s.memRead_keeps s.hl).mono (by decide)
  rw [updateOpnd_mHL]
  exact (hread.trans (State.memWrite_keeps _ s.hl _)).trans_append (State.setFlags_keeps _ _)

theorem Straight.updateOpnd (g : Byte → Flags → Byte × Flags) (s : State) (o : Opnd) :
    Straight (portAccesses o + portAccesses o) s (updateOpnd g s o) :=
  ((Straight.rd8 s o).trans (Straight.wr8 _ o _)).free (Straight.setFlags _ _)

/-! ### `INC` and `DEC` of a byte -/

/-- `g` adds `d` modulo 256; its flags are of the result, but for the half-carry, which is set by the old low nibble
`half`, and for the carry, which is kept. -/
def StepsByte (g : Byte → Flags → Byte × Flags) (d : Nat) (sub : Bool) (half : Nat) : Prop :=
  ∀ v f, (g v f).1.toNat = (v.toNat + d) % 256 ∧
    (g v f).2 = ⟨decide ((g v f).1 = 0), sub, decide (v.toNat % 16 = half), f.c⟩

theorem inc8_stepsByte : StepsByte inc8 1 false 0xF := fun v _ => ⟨BitVec.toNat_add v 1, rfl⟩

theorem dec8_stepsByte : StepsByte dec8 255 true 0 := by
  intro v f
  refine ⟨?_, rfl⟩
  show (v - 1).toNat = (v.toNat + 255) % 256
  rw [BitVec.toNat_sub, Nat.add_comm]
  rfl

section
variable {g : Byte → Flags → Byte × Flags} {d half n : Nat} {sub : Bool} {i : Instr} {s : State}

theorem StepsByte.exists_next_reg {r : R8} (h : StepsByte g d sub half)
    (he : exec i s = .next (updateOpnd g s (.reg r))) (hn : (encode i).length = n) :
    ∃ t, exec i s = .next t ∧ (t.reg r).toNat = ((s.reg r).toNat + d) % 256 ∧
      FlagsAre (decide (t.reg r = 0)) sub (decide ((s.reg r).toNat % 16 = half)) s.fC t ∧
      Keeps [.reg r, .F] s t ∧ Costs i n s t := by
  obtain ⟨hr, hF⟩ := h (s.reg r) s.flags
  have hreg : (updateOpnd g s (.reg r)).reg r = (g (s.reg r) s.flags).1 := by simp [updateOpnd_reg]
  refine ⟨_, he, by rw [hreg, hr], ?_, s.setReg_setFlags_keeps r _,
    (Straight.updateOpnd g s (.reg r)).costs (k := 0) hn⟩
  rw [hreg, updateOpnd_reg, hF]
  exact FlagsAre.setFlags _ _

theorem StepsByte.exists_next_mHL (h : StepsByte g d sub half) (he : exec i s = .next (updateOpnd g s .mHL))
    (hn : (encode i).length + 2 = n) :
    ∃ t m old new, exec i s = .next t ∧ FacadeRead s.hl old s m ∧ FacadeWrite s.hl new m t ∧
      new.toNat = (old.toNat + d) % 256 ∧
      FlagsAre (decide (new = 0)) sub (decide (old.toNat % 16 = half)) s.fC t ∧
      Keeps (.F :: writeParts) s t ∧ Costs i n s t := by
  obtain ⟨hnew, hF⟩ := h (s.memRead s.hl).1 s.flags
  refine ⟨_, _, _, _, he, s.memRead_spec s.hl, updateOpnd_mHL_write g s, hnew, ?_, updateOpnd_mHL_keeps g s,
    (Straight.updateOpnd g s .mHL).costs (k := 2) hn⟩
  rw [updateOpnd_mHL, hF]
  exact FlagsAre.setFlags _ _

end

theorem exec_inc (o : Opnd) (s : State) : exec (.inc o) s = .next (updateOpnd inc8 s o) := by
  cases o with
  | reg r => cases r <;> rfl
  | mHL => rfl

theorem exec_dec (o : Opnd) (s : State) : exec (.dec o) s = .next (updateOpnd dec8 s o) := by
  cases o with
  | reg r => cases r <;> rfl
  | mHL => rfl

/-- Settles O16: INC and DEC are one operation, which adds 1 or 255. -/
theorem incrementAndDecrementByte : Obligations.IncrementAndDecrementByte := fun s =>
  ⟨fun r => ⟨encode_inc (.reg r), inc8_stepsByte.exists_next_reg (exec_inc _ s) (length_encode_inc _)⟩,
    fun r => ⟨encode_dec (.reg r), dec8_stepsByte.exists_next_reg (exec_dec _ s) (length_encode_dec _)⟩,
    ⟨rfl, inc8_stepsByte.exists_next_mHL (exec_inc .mHL s) rfl⟩,
    ⟨rfl, dec8_stepsByte.exists_next_mHL (exec_dec .mHL s) rfl⟩⟩

/-! ### `CPL`, `SCF` and `CCF` -/

theorem getLsbD_xor_ones (a : Byte) {i : Nat} (hi : i < 8) : (a ^^^ 0xFF).getLsbD i = !a.getLsbD i := by
  have hcompl : a ^^^ 0xFF = ~~~a := BitVec.xor_allOnes
  rw [hcompl, BitVec.getLsbD_not, decide_eq_true hi, Bool.true_and]

/-- Settles O19: the flags that no rule names are those of before. -/
theorem complementAndCarryFlagInstructions : Obligations.ComplementAndCarryFlagInstructions := by
  intro s
  refine ⟨⟨rfl, _, rfl, fun i hi => getLsbD_xor_ones s.A hi, ?_⟩, ⟨rfl, _, rfl, ?_⟩, ⟨rfl, _, rfl, ?_⟩⟩
  · let p : Byte × Flags := (s.A ^^^ 0xFF, { s.flags with n := true, h := true })
    have hsteady := (Straight.setReg s .A p.1).trans (Straight.setFlags _ p.2)
    exact ⟨FlagsAre.setFlags _ p.2, s.setReg_setFlags_keeps .A p, hsteady.costs (k := 0) rfl⟩
  · exact ⟨FlagsAre.setFlags _ _, s.setFlags_keeps _, (Straight.setFlags s _).costs (k := 0) rfl⟩
  · exact ⟨FlagsAre.setFlags _ _, s.setFlags_keeps _, (Straight.setFlags s _).costs (k := 0) rfl⟩

end Sys2Proof.Machine
end

section
/-! ## Decimal adjustment (R103)

`DAA` as numbers in both of its branches, and from that the theorem of packed decimal arithmetic: after a sum or a
difference of two decimal bytes, the adjusted byte is the decimal sum or difference (`daa_add8`, `daa_sub8`). -/

namespace Sys2Proof.Machine

/-! ### The result as a number -/

/-- The two corrections have no bit in common, so their union is their sum. -/
theorem correction_toNat (low high : Bool) :
    ((if low then 0x06 else 0 : Byte) ||| (if high then 0x60 else 0)).toNat =
      (if low = true then 0x06 else 0) + (if high = true then 0x60 else 0) := by
  cases low <;> cases high <;> rfl

/-- The branch of `DAA` after an addition. -/
theorem daa_of_add (a : Byte) {f : Flags} (hn : f.n = false) :
    (daa a f).1.toNat = (a.toNat + (if f.h = true ∨ a.toNat % 16 > 9 then 0x06 else 0) +
      (if f.c = true ∨ a.toNat > 0x99 then 0x60 else 0)) % 256 ∧
    (daa a f).2 = ⟨decide ((daa a f).1 = 0), false, false, decide (f.c = true ∨ a.toNat > 0x99)⟩ := by
  simp only [daa, hn, Bool.false_eq_true, if_false]
  constructor
  · rw [BitVec.toNat_add, correction_toNat, Nat.add_assoc]
    simp [nibble]
  · rw [Bool.decide_or, Bool.decide_eq_true]
    rfl

/-- The branch of `DAA` after a subtraction. -/
theorem daa_of_sub (a : Byte) {f : Flags} (hn : f.n = true) :
    (daa a f).1.toNat =
      (a.toNat + 256 - (if f.h = true then 0x06 else 0) - (if f.c = true then 0x60 else 0)) % 256 ∧
    (daa a f).2 = ⟨decide ((daa a f).1 = 0), true, false, f.c⟩ := by
  simp only [daa, hn, if_true]
  refine ⟨?_, rfl⟩
  rw [BitVec.toNat_sub, correction_toNat]
  split <;> split <;> omega

theorem decimalAdjust_accumulated (s : State) : Accumulated (daa s.A s.flags) (decimalAdjust s) :=
  s.setReg_setFlags_accumulated (daa s.A s.flags)

theorem Accumulated.flagsAre {p : Byte × Flags} {t : State} {sub half carry : Bool} (h : Accumulated p t)
    (hp : p.2 = ⟨decide (p.1 = 0), sub, half, carry⟩) : FlagsAre (decide (t.A = 0)) sub half carry t := by
  obtain ⟨hA, hF⟩ := h
  rw [hp] at hF
  rw [hA]
  exact hF

/-- Settles O17: the two branches of `daa`. (The name `decimalAdjust` is the model's.) -/
theorem decimalAdjust_follows_rule : Obligations.DecimalAdjust := by
  intro s
  have h := decimalAdjust_accumulated s
  have hA : (decimalAdjust s).A.toNat = (daa s.A s.flags).1.toNat := congrArg BitVec.toNat h.1
  refine ⟨rfl, decimalAdjust s, rfl, fun hn => ?_, fun hn => ?_, s.setReg_setFlags_keeps .A (daa s.A s.flags),
    (Straight.decimalAdjust s).costs (k := 0) rfl⟩
  · obtain ⟨hres, hflags⟩ := daa_of_add s.A (f := s.flags) hn
    exact ⟨hA.trans hres, h.flagsAre hflags⟩
  · obtain ⟨hres, hflags⟩ := daa_of_sub s.A (f := s.flags) hn
    exact ⟨hA.trans hres, h.flagsAre hflags⟩

/-! ### Packed decimal bytes -/

theorem bcdValue_eq_some {v : Byte} {n : Nat} :
    bcdValue v = some n ↔ ∃ hi lo, hi ≤ 9 ∧ lo ≤ 9 ∧ v.toNat = 16 * hi + lo ∧ n = 10 * hi + lo := by
  unfold bcdValue
  split
  · next h =>
    rw [Option.some_inj]
    constructor
    · rintro rfl
      exact ⟨_, _, h.1, h.2, (Nat.div_add_mod v.toNat 16).symm, rfl⟩
    · rintro ⟨hi, lo, -, hlo, hv, rfl⟩
      omega
  · next h =>
    constructor
    · exact nofun
    · rintro ⟨hi, lo, hhi, hlo, hv, -⟩
      exact absurd ⟨by omega, by omega⟩ h

/-! The corrections on the digits alone: `p`, `q` and `r`, `t` are the high and low digits of the operands. -/

section
variable {p q r t c : Nat} (hp : p ≤ 9) (hq : q ≤ 9) (hr : r ≤ 9) (ht : t ≤ 9) (hc : c ≤ 1)
include hp hq hr ht hc

/-- 6 makes up for a carry out of the low digit, and 0x60 for one out of the high digit. -/
theorem corrected_sum_digits :
    ((16 * p + q + (16 * r + t) + c) % 256 + (if q + t + c ≥ 10 then 0x06 else 0) +
      (if 10 * p + q + (10 * r + t) + c ≥ 100 then 0x60 else 0)) % 256 =
      16 * ((p + r + (q + t + c) / 10) % 10) + (q + t + c) % 10 := by
  split <;> split <;> omega

/-- 6 makes up for a borrow by the low digit, and 0x60 for one by the high digit; a quotient by 10 that is 1 says that
the low digits needed no borrow. -/
theorem corrected_difference_digits {d : Nat}
    (hd : (d : Int) = (((16 * p + q : Nat) : Int) - (16 * r + t : Nat) - c) % 256) :
    (d + 256 - (if q < t + c then 0x06 else 0) - (if 10 * p + q < 10 * r + t + c then 0x60 else 0)) % 256 =
      16 * ((p + 9 - r + (q + 10 - t - c) / 10) % 10) + (q + 10 - t - c) % 10 := by
  split <;> split <;> omega

end

/-- `DAA` after a sum of two decimal bytes: the digits of the result are those of a decimal addition by hand. -/
theorem daa_add8 {a v : Byte} {x y : Nat} (c : Bool) (hx : bcdValue a = some x) (hy : bcdValue v = some y) :
    bcdValue (daa (add8 a v c).1 (add8 a v c).2).1 = some ((x + y + c.toNat) % 100) ∧
      (daa (add8 a v c).1 (add8 a v c).2).2.c = decide (x + y + c.toNat ≥ 100) := by
  obtain ⟨p, q, hp, hq, ha, rfl⟩ := bcdValue_eq_some.mp hx
  obtain ⟨r, t, hr, ht, hv, rfl⟩ := bcdValue_eq_some.mp hy
  have hc := c.toNat_le
  have hsum := add8_toNat a v c
  have hlow : ((add8 a v c).2.h = true ∨ (add8 a v c).1.toNat % 16 > 9) ↔ q + t + c.toNat ≥ 10 := by
    rw [add8_flags, decide_eq_true_iff]
    omega
  have hhigh : ((add8 a v c).2.c = true ∨ (add8 a v c).1.toNat > 0x99) ↔
      10 * p + q + (10 * r + t) + c.toNat ≥ 100 := by
    rw [add8_flags, decide_eq_true_iff]
    omega
  obtain ⟨hres, hflags⟩ := daa_of_add (add8 a v c).1 (f := (add8 a v c).2) rfl
  simp only [hlow, hhigh] at hres
  refine ⟨bcdValue_eq_some.mpr ⟨(p + r + (q + t + c.toNat) / 10) % 10, (q + t + c.toNat) % 10,
    by omega, by omega, ?_, by omega⟩, ?_⟩
  · rw [hres, hsum, ha, hv, corrected_sum_digits hp hq hr ht hc]
  · rw [hflags]
    exact decide_eq_decide.mpr hhigh

/-- `DAA` after a difference of two decimal bytes. -/
theorem daa_sub8 {a v : Byte} {x y : Nat} (c : Bool) (hx : bcdValue a = some x) (hy : bcdValue v = some y) :
    bcdValue (daa (sub8 a v c).1 (sub8 a v c).2).1 = some ((x + 100 - y - c.toNat) % 100) ∧
      (daa (sub8 a v c).1 (sub8 a v c).2).2.c = decide (x < y + c.toNat) := by
  obtain ⟨p, q, hp, hq, ha, rfl⟩ := bcdValue_eq_some.mp hx
  obtain ⟨r, t, hr, ht, hv, rfl⟩ := bcdValue_eq_some.mp hy
  have hc := c.toNat_le
  have hdiff := sub8_toNat a v c
  have hlow : (sub8 a v c).2.h = true ↔ q < t + c.toNat := by
    rw [sub8_flags, decide_eq_true_iff]
    omega
  have hhigh : (sub8 a v c).2.c = true ↔ 10 * p + q < 10 * r + t + c.toNat := by
    rw [sub8_flags, decide_eq_true_iff]
    omega
  obtain ⟨hres, hflags⟩ := daa_of_sub (sub8 a v c).1 (f := (sub8 a v c).2) rfl
  simp only [hlow, hhigh] at hres
  refine ⟨bcdValue_eq_some.mpr ⟨(p + 9 - r + (q + 10 - t - c.toNat) / 10) % 10, (q + 10 - t - c.toNat) % 10,
    by omega, by omega, ?_, by omega⟩, ?_⟩
  · rw [ha, hv] at hdiff
    rw [hres, corrected_difference_digits hp hq hr ht hc hdiff]
  · rw [hflags, Bool.eq_iff_iff, decide_eq_true_iff]
    exact hhigh

/-! ### An operation and then `DAA` -/

theorem Accumulated.flags_eq {p : Byte × Flags} {t : State} (h : Accumulated p t) : t.flags = p.2 := by
  obtain ⟨-, hz, hn, hh, hc, -⟩ := h
  unfold State.flags
  rw [hz, hn, hh, hc]

/-- `DAA` right after an operation adjusts the result of the operation by its flags. -/
theorem exec_aluD8_daa {op : AluOp} {v : Byte} {s : State} {p : Byte × Flags} {n : Nat} {c : Bool}
    (hp : Accumulated p (accumulate s op v)) (h : bcdValue (daa p.1 p.2).1 = some n ∧ (daa p.1 p.2).2.c = c) :
    ∃ m t, exec (.aluD8 op v) s = .next m ∧ exec .daa m = .next t ∧ bcdValue t.A = some n ∧ t.fC = c := by
  obtain ⟨hA, hF⟩ := decimalAdjust_accumulated (accumulate s op v)
  obtain ⟨-, -, -, hcarry, -⟩ := hF
  rw [hp.1, hp.flags_eq] at hA hcarry
  exact ⟨_, _, exec_aluD8 op v s, rfl, by rw [hA]; exact h.1, hcarry.trans h.2⟩

/-- Settles O18: SUB and ADD are the cases of SBC and ADC without a carry. -/
theorem decimalAdjustMakesBinaryArithmeticDecimal : Obligations.DecimalAdjustMakesBinaryArithmeticDecimal := by
  intro s v x y hx hy
  rw [s.carryIn_eq]
  exact ⟨exec_aluD8_daa (accumulate_accumulated s .add v) (daa_add8 false hx hy),
    exec_aluD8_daa (accumulate_accumulated s .adc v) (daa_add8 s.fC hx hy),
    exec_aluD8_daa (accumulate_accumulated s .sub v) (daa_sub8 false hx hy),
    exec_aluD8_daa (accumulate_accumulated s .sbc v) (daa_sub8 s.fC hx hy)⟩

end Sys2Proof.Machine
end

section
/-! ## The 16-bit arithmetic instructions (R110 to R113)

Two shapes: a sum left in HL or in sp with its flags, and a pair stepped by one with no flag written. -/

namespace Sys2Proof.Machine

/-! ### A sum left in HL or in sp -/

/-- Flags and internal cycles after a change add F and the counter to what may have changed. -/
theorem Keeps.setFlags_internal {a : List Part} {s t : State} (h : Keeps a s t) (f : Flags) (n : Nat) :
    Keeps (a ++ [.F, .cycles]) s ((t.setFlags f).internal n) :=
  have hrest := ((t.setFlags_keeps f).trans_append (State.internal_keeps _ n)).mono (List.Perm.swap _ _ []).subset
  (h.trans_append hrest).mono List.perm_append_comm.subset

theorem add16_toNat (hl v : Word) (f : Flags) : (add16 hl v f).1.toNat = (hl.toNat + v.toNat) % 65536 :=
  BitVec.toNat_add hl v

theorem addToHL_hl (s : State) (v : Word) : (addToHL s v).hl = (add16 s.hl v s.flags).1 := by
  simp [addToHL]

theorem addToHL_flagsAre (s : State) (v : Word) :
    FlagsAre s.fZ false (decide (s.hl.toNat % 4096 + v.toNat % 4096 > 0xFFF)) (decide (s.hl.toNat + v.toNat > 0xFFFF))
      (addToHL s v) :=
  (FlagsAre.setFlags (s.setHL (add16 s.hl v s.flags).1) (add16 s.hl v s.flags).2).congr rfl

theorem addToHL_keeps (s : State) (v : Word) : Keeps [.reg .H, .reg .L, .F, .cycles] s (addToHL s v) :=
  (s.setHL_keeps _).setFlags_internal (add16 s.hl v s.flags).2 1

theorem exec_addHL (p : RP) (s : State) : exec (.addHL p) s = .next (addToHL s (s.rp p)) := by
  cases p <;> rfl

/-- Settles O20: the pair is read before HL is written, so that HL itself may be the pair. -/
theorem addPairToHL : Obligations.AddPairToHL := by
  intro s p
  refine ⟨encode_addHL p, _, exec_addHL p s, ?_, addToHL_flagsAre s _, addToHL_keeps s _, ?_⟩
  · rw [addToHL_hl, add16_toNat]
  · exact (Straight.addToHL s _).costs (k := 1) (by rw [length_encode_addHL])

theorem addToSP_spFlags (s : State) (e : Byte) : SPFlags s.sp e (addToSP s e) :=
  (spFlags_setFlags_addSP s.sp e { s with sp := (addSP s.sp e).1 }).congr rfl

theorem addToSP_keeps (s : State) (e : Byte) : Keeps [.sp, .F, .cycles] s (addToSP s e) :=
  (s.setSP_keeps _).setFlags_internal (addSP s.sp e).2 2

/-- Settles O22: the sum and the flags of `LD HL,SP+e8`, with sp as the destination. -/
theorem addSignedToStackPointer : Obligations.AddSignedToStackPointer := fun s e =>
  ⟨rfl, addToSP s e, rfl, PlusSigned.sext16 s.sp e, addToSP_spFlags s e, addToSP_keeps s e,
    (Straight.addToSP s e).costs (k := 2) rfl⟩

/-! ### A pair stepped by one -/

/-- Writing a pair and waiting one cycle: the effect, the frame and the cost, for whatever instruction means it. -/
theorem exists_next_of_setRp_internal {i : Instr} {s : State} {p : RP} {w : Word} {m n : Nat}
    (he : exec i s = .next ((s.setRp p w).internal 1)) (hw : w.toNat = m) (hn : (encode i).length + 1 = n) :
    ∃ t, exec i s = .next t ∧ (t.rp p).toNat = m ∧ Keeps (.cycles :: rpParts p) s t ∧ Costs i n s t :=
  ⟨_, he, by rw [State.internal_rp, State.setRp_rp, hw], (s.setRp_keeps p w).trans_append (State.internal_keeps _ 1),
    ((Straight.setRp s p w).trans (Straight.internal _ 1)).costs (k := 1) hn⟩

theorem exec_incRp (p : RP) (s : State) : exec (.incRp p) s = .next ((s.setRp p (s.rp p + 1)).internal 1) := by
  cases p <;> rfl

theorem exec_decRp (p : RP) (s : State) : exec (.decRp p) s = .next ((s.setRp p (s.rp p - 1)).internal 1) := by
  cases p <;> rfl

/-- Settles O21: one less is 65535 more, modulo 65536; the frame of a pair's write holds F. -/
theorem incrementAndDecrementPair : Obligations.IncrementAndDecrementPair := by
  intro s p
  have hinc : (s.rp p + 1).toNat = ((s.rp p).toNat + 1) % 65536 := BitVec.toNat_add _ 1
  have hdec : (s.rp p - 1).toNat = ((s.rp p).toNat + 65535) % 65536 := by bv_omega
  exact ⟨⟨encode_incRp p, exists_next_of_setRp_internal (exec_incRp p s) hinc (by rw [length_encode_incRp])⟩,
    ⟨encode_decRp p, exists_next_of_setRp_internal (exec_decRp p s) hdec (by rw [length_encode_decRp])⟩⟩

end Sys2Proof.Machine
end

section
/-! ## The rotates, the shifts and the bit instructions (R115 to R130)

What the pure functions do to each bit of a byte; then the two ways of working on an operand in place: with flags
(`updateOpnd`) and, for RES and SET, without (`mapOpnd`). -/

namespace Sys2Proof.Machine

/-! ### Rotates and shifts, bit by bit

Every operation but SWAP is a shift by one, with a bit `c` taken in at the end that the shift leaves free. -/

theorem getLsbD_bitByte (c : Bool) (i : Nat) : (bitByte c).getLsbD i = (decide (i = 0) && c) := by
  cases c <;> cases i <;> simp [bitByte]

theorem shiftLeft_one_or_bitByte_bits (v : Byte) (c : Bool) :
    (∀ i < 7, ((v <<< 1) ||| bitByte c).getLsbD (i + 1) = v.getLsbD i) ∧
      ((v <<< 1) ||| bitByte c).getLsbD 0 = c := by
  simp only [BitVec.getLsbD_or, BitVec.getLsbD_shiftLeft, getLsbD_bitByte]
  exact ⟨fun i hi => by simp [(Nat.succ_lt_succ hi : i + 1 < 8)], by simp⟩

theorem ushiftRight_one_or_bitByte_bits (v : Byte) (c : Bool) :
    (∀ i < 7, ((v >>> 1) ||| (bitByte c <<< 7)).getLsbD i = v.getLsbD (i + 1)) ∧
      ((v >>> 1) ||| (bitByte c <<< 7)).getLsbD 7 = c := by
  simp only [BitVec.getLsbD_or, BitVec.getLsbD_shiftLeft, BitVec.getLsbD_ushiftRight, getLsbD_bitByte]
  exact ⟨fun i hi => by simp [hi, Nat.add_comm], by simp⟩

/-- What SRA keeps is the old bit 7, taken in at the top (R125). -/
theorem and_0x80_eq_bitByte_shiftLeft (v : Byte) : v &&& (0x80 : Byte) = bitByte (v.getLsbD 7) <<< 7 := by
  have htop : v &&& (0x80 : Byte) = if v.getLsbD 7 = true then 0x80 else 0 := BitVec.and_twoPow v 7
  rw [htop]
  cases v.getLsbD 7 <;> rfl

theorem swap_nibbles_bits (v : Byte) {i : Nat} (hi : i < 4) :
    ((v <<< 4) ||| (v >>> 4)).getLsbD i = v.getLsbD (i + 4) ∧
      ((v <<< 4) ||| (v >>> 4)).getLsbD (i + 4) = v.getLsbD i := by
  have hlow : i + 4 < 8 := by omega
  have hhigh : v.getLsbD (4 + (i + 4)) = false := BitVec.getLsbD_of_ge v _ (by omega)
  simp only [BitVec.getLsbD_or, BitVec.getLsbD_shiftLeft, BitVec.getLsbD_ushiftRight]
  exact ⟨by simp [hi, Nat.add_comm], by simp [hlow, hhigh]⟩

/-- `rotate` is what the rules say bit by bit. -/
theorem rotate_rotated (op : RotOp) (v : Byte) (c : Bool) : Rotated op v c (rotate op v c).1 (rotate op v c).2 := by
  cases op with
  | rlc | rl =>
    obtain ⟨hmoved, hin⟩ := shiftLeft_one_or_bitByte_bits v _
    exact ⟨hmoved, hin, rfl⟩
  | rrc | rr =>
    obtain ⟨hmoved, hin⟩ := ushiftRight_one_or_bitByte_bits v _
    exact ⟨hmoved, hin, rfl⟩
  | sla =>
    have hzero : (v <<< 1) ||| bitByte false = v <<< 1 := BitVec.or_zero
    obtain ⟨hmoved, hin⟩ := hzero ▸ shiftLeft_one_or_bitByte_bits v false
    exact ⟨hmoved, hin, rfl⟩
  | sra =>
    obtain ⟨hmoved, hin⟩ := and_0x80_eq_bitByte_shiftLeft v ▸ ushiftRight_one_or_bitByte_bits v (v.getLsbD 7)
    exact ⟨hmoved, hin, rfl⟩
  | swap => exact ⟨fun i hi => swap_nibbles_bits v hi, rfl⟩
  | srl =>
    have hzero : (v >>> 1) ||| (bitByte false <<< 7) = v >>> 1 := BitVec.or_zero
    obtain ⟨hmoved, hin⟩ := hzero ▸ ushiftRight_one_or_bitByte_bits v false
    exact ⟨hmoved, hin, rfl⟩

/-! ### The accumulator rotates of the base table -/

theorem exists_next_of_rotateA {i : Instr} {s : State} {op : RotOp} {n : Nat} (he : exec i s = .next (rotateA s op))
    (hn : (encode i).length = n) :
    ∃ t out, exec i s = .next t ∧ Rotated op s.A s.fC t.A out ∧ FlagsAre false false false out t ∧
      Keeps [.reg .A, .F] s t ∧ Costs i n s t :=
  ⟨_, _, he, rotate_rotated op s.A s.fC, FlagsAre.setFlags _ (rotateAFlags op s.A s.fC).2,
    s.setReg_setFlags_keeps .A (rotateAFlags op s.A s.fC), (Straight.rotateA s op).costs (k := 0) hn⟩

/-- Settles O23: the four are `rotateA`, each with its operation. -/
theorem accumulatorRotates : Obligations.AccumulatorRotates := by
  rintro s op i b (⟨rfl, rfl, rfl⟩ | ⟨rfl, rfl, rfl⟩ | ⟨rfl, rfl, rfl⟩ | ⟨rfl, rfl, rfl⟩)
  all_goals exact ⟨rfl, exists_next_of_rotateA rfl rfl⟩

/-! ### The rotates and shifts of the extended table -/

/-- What a rotate makes of the operand and of the flags: of these it reads the carry alone. -/
def rotateUpdate (op : RotOp) (v : Byte) (f : Flags) : Byte × Flags := rotateFlags op v f.c

theorem exec_rot (op : RotOp) (o : Opnd) (s : State) :
    exec (.rot op o) s = .next (updateOpnd (rotateUpdate op) s o) := by
  cases o with
  | reg r => cases op <;> cases r <;> rfl
  | mHL => cases op <;> rfl

theorem updateOpnd_reg_reg (g : Byte → Flags → Byte × Flags) (s : State) (r : R8) :
    (updateOpnd g s (.reg r)).reg r = (g (s.reg r) s.flags).1 := by
  simp [updateOpnd_reg]

/-- Settles O24: both operand forms are an update in place, with the result and the flags of `rotate`. -/
theorem extendedRotatesAndShifts : Obligations.ExtendedRotatesAndShifts := by
  intro s op
  refine ⟨fun r => ⟨encode_rot op (.reg r), ?_⟩, encode_rot op .mHL, ?_⟩
  · refine ⟨_, (rotate op (s.reg r) s.fC).2, exec_rot op (.reg r) s, ?_⟩
    rw [updateOpnd_reg_reg]
    exact ⟨rotate_rotated op _ _, FlagsAre.setFlags _ (rotateUpdate op (s.reg r) s.flags).2,
      s.setReg_setFlags_keeps r (rotateUpdate op (s.reg r) s.flags),
      (Straight.updateOpnd _ s (.reg r)).costs (k := 0) (length_encode_rot op _)⟩
  · refine ⟨_, _, _, _, _, exec_rot op .mHL s, s.memRead_spec s.hl, rotate_rotated op _ s.fC,
      updateOpnd_mHL_write (rotateUpdate op) s, ?_, updateOpnd_mHL_keeps _ s, ?_⟩
    · rw [updateOpnd_mHL]
      exact FlagsAre.setFlags _ _
    · exact (Straight.updateOpnd _ s .mHL).costs (k := 2) (by rw [length_encode_rot])

/-! ### `BIT` -/

theorem exec_bit (b : Fin 8) (o : Opnd) (s : State) : exec (.bit b o) s = .next (testBit s b o) := by
  cases o with
  | reg r => fin_cases b <;> cases r <;> rfl
  | mHL => fin_cases b <;> rfl

/-- Settles O25: the operand is read and F alone is written, with the carry of before. -/
theorem bitTestSetsZeroFromComplement : Obligations.BitTestSetsZeroFromComplement := by
  intro s b
  refine ⟨fun r => ⟨encode_bit b (.reg r), ?_⟩, ?_, ?_⟩
  · exact ⟨_, exec_bit b (.reg r) s, FlagsAre.setFlags s _, s.setFlags_keeps _,
      (Straight.testBit s b (.reg r)).costs (k := 0) (length_encode_bit b _)⟩
  · rw [encode_bit]
    exact congrArg (fun n => [prefixByte, BitVec.ofNat 8 n]) (Nat.add_right_comm 0x40 (8 * b.val) 6)
  · exact ⟨_, _, exec_bit b .mHL s, (s.memRead_spec s.hl).setFlags _,
      FlagsAre.of_setFlags _ _ rfl rfl rfl (s.memRead_fC s.hl),
      (s.memRead_keeps s.hl).trans_append (State.setFlags_keeps _ _),
      (Straight.testBit s b .mHL).costs (k := 1) (by rw [length_encode_bit])⟩

/-! ### `RES` and `SET` -/

/-- `w` is `v` with bit `b` at the value `on`, and its other bits as they are. -/
def WithBit (b : Fin 8) (on : Bool) (v w : Byte) : Prop :=
  ∀ k < 8, w.getLsbD k = if k = b.val then on else v.getLsbD k

theorem getLsbD_one_shiftLeft (b : Fin 8) (k : Nat) : ((1 : Byte) <<< b.val).getLsbD k = decide (k = b.val) := by
  have hbit : ((1 : Byte) <<< b.val).getLsbD k = (decide (b.val < 8) && decide (b.val = k)) :=
    BitVec.getLsbD_twoPow b.val k
  rw [hbit, decide_eq_true b.isLt, Bool.true_and]
  exact decide_eq_decide.mpr eq_comm

theorem resetBit_withBit (b : Fin 8) (v : Byte) : WithBit b false v (resetBit b v) := by
  intro k hk
  rw [resetBit, BitVec.getLsbD_and, BitVec.getLsbD_not, getLsbD_one_shiftLeft]
  by_cases h : k = b.val <;> simp [h, hk]

theorem setBit_withBit (b : Fin 8) (v : Byte) : WithBit b true v (setBit b v) := by
  intro k _
  rw [setBit, BitVec.getLsbD_or, getLsbD_one_shiftLeft]
  by_cases h : k = b.val <;> simp [h]

/-- Read the operand and write back what `f` makes of it; no flag is touched. -/
def mapOpnd (f : Byte → Byte) (s : State) (o : Opnd) : State := (s.rd8 o).2.wr8 o (f (s.rd8 o).1)

theorem mapOpnd_reg (f : Byte → Byte) (s : State) (r : R8) : mapOpnd f s (.reg r) = s.setReg r (f (s.reg r)) := rfl

/-- The read leaves HL alone, so the write has the same address. -/
theorem mapOpnd_mHL (f : Byte → Byte) (s : State) :
    mapOpnd f s .mHL = (s.memRead s.hl).2.memWrite s.hl (f (s.memRead s.hl).1) := by
  simp [mapOpnd, State.rd8, State.wr8]

theorem exec_res (b : Fin 8) (o : Opnd) (s : State) : exec (.res b o) s = .next (mapOpnd (resetBit b) s o) := by
  cases o with
  | reg r => fin_cases b <;> cases r <;> rfl
  | mHL => fin_cases b <;> rfl

theorem exec_set (b : Fin 8) (o : Opnd) (s : State) : exec (.set b o) s = .next (mapOpnd (setBit b) s o) := by
  cases o with
  | reg r => fin_cases b <;> cases r <;> rfl
  | mHL => fin_cases b <;> rfl

section
variable {i : Instr} {s : State} {f : Byte → Byte} {b : Fin 8} {on : Bool} (hf : ∀ v, WithBit b on v (f v))
  (hlen : (encode i).length = 2)
include hf hlen

theorem exists_next_of_mapOpnd_reg {r : R8} (he : exec i s = .next (mapOpnd f s (.reg r))) :
    ∃ t, exec i s = .next t ∧ WithBit b on (s.reg r) (t.reg r) ∧ Keeps [.reg r] s t ∧ Costs i 2 s t := by
  have hreg : (mapOpnd f s (.reg r)).reg r = f (s.reg r) := by simp [mapOpnd_reg]
  exact ⟨_, he, by rw [hreg]; exact hf _, s.setReg_keeps r _, (Straight.setReg s r _).costs (k := 0) hlen⟩

theorem exists_next_of_mapOpnd_mHL (he : exec i s = .next (mapOpnd f s .mHL)) :
    ∃ t m old new, exec i s = .next t ∧ FacadeRead s.hl old s m ∧ WithBit b on old new ∧
      FacadeWrite s.hl new m t ∧ Keeps writeParts s t ∧ Costs i 4 s t := by
  have hread : Keeps writeParts s (s.memRead s.hl).2 := (s.memRead_keeps s.hl).mono (by decide)
  have hsteady := (Straight.memRead s s.hl).trans (Straight.memWrite _ s.hl (f (s.memRead s.hl).1))
  rw [mapOpnd_mHL] at he
  exact ⟨_, _, _, _, he, s.memRead_spec s.hl, hf _, State.memWrite_spec _ s.hl _,
    hread.trans (State.memWrite_keeps _ s.hl _), hsteady.costs (k := 2) (by rw [hlen])⟩

end

/-- Settles O26: RES and SET write back the byte with the one bit changed, whether or not it differs. -/
theorem resetAndSetBit : Obligations.ResetAndSetBit := by
  intro s b on
  cases on with
  | false =>
    have hlen := length_encode_res b
    exact ⟨fun r => ⟨encode_res b (.reg r),
        exists_next_of_mapOpnd_reg (resetBit_withBit b) (hlen _) (exec_res b (.reg r) s)⟩,
      encode_res b .mHL, exists_next_of_mapOpnd_mHL (resetBit_withBit b) (hlen _) (exec_res b .mHL s)⟩
  | true =>
    have hlen := length_encode_set b
    exact ⟨fun r => ⟨encode_set b (.reg r),
        exists_next_of_mapOpnd_reg (setBit_withBit b) (hlen _) (exec_set b (.reg r) s)⟩,
      encode_set b .mHL, exists_next_of_mapOpnd_mHL (setBit_withBit b) (hlen _) (exec_set b .mHL s)⟩

end Sys2Proof.Machine
end

section
/-! ## The control transfers (R135 to R146)

A jump, a call and a return: for each operation its target, its frame and its cost, for whatever instruction has it as
its meaning. A conditional form has the operation as its meaning where its condition holds (`exec_of_cond`). -/

namespace Sys2Proof.Machine

/-! ### Frames and costs -/

theorem State.setPC_keeps (s : State) (a : Word) : Keeps [.pc] s { s with pc := a } := by
  intro p hp
  cases p with
  | pc => simp at hp
  | memory => exact fun _ => rfl
  | _ => rfl

theorem State.setIME_keeps (s : State) (b : Bool) : Keeps [.IME] s { s with IME := b } := by
  intro p hp
  cases p with
  | IME => simp at hp
  | memory => exact fun _ => rfl
  | _ => rfl

/-- An operation that charges `k` machine cycles, a control transfer too, makes its instruction's cost. -/
theorem Steady.costs {i : Instr} {k n : Nat} {s t : State} (h : Steady (BitVec.ofNat 8 k) s t)
    (hn : (encode i).length + k = n) : Costs i n s t :=
  Costs.of_cycles k hn h.cycles

/-- An instruction that does nothing after its fetch costs its length. -/
theorem Costs.of_length {i : Instr} {n : Nat} (s : State) (hn : (encode i).length = n) : Costs i n s s :=
  (Steady.refl s).costs (k := 0) hn

/-! ### The two cases of a condition (R135) -/

section
variable {i : Instr} {c : Cond} {s taken untaken : State}
  (he : exec i s = .next (if s.cond c then taken else untaken))
include he

theorem exec_of_cond :
    CondHolds c s ∧ exec i s = .next taken ∨ ¬ CondHolds c s ∧ exec i s = .next untaken := by
  rw [condHolds_iff, he]
  cases s.cond c <;> simp

/-- What is true of either state is true of the answer in its case. -/
theorem exists_next_of_cond {P Q : State → Prop} (htaken : P taken) (huntaken : Q untaken) :
    ∃ t, exec i s = .next t ∧ (CondHolds c s → P t) ∧ (¬ CondHolds c s → Q t) := by
  obtain ⟨hc, he⟩ | ⟨hc, he⟩ := exec_of_cond he
  · exact ⟨taken, he, fun _ => htaken, fun h => absurd hc h⟩
  · exact ⟨untaken, he, fun h => absurd h hc, fun _ => huntaken⟩

end

/-! ### Jumps (R136 to R140) -/

theorem jumpTo_keeps (s : State) (a : Word) : Keeps [.pc, .cycles] s (jumpTo s a) :=
  ((s.setPC_keeps a).trans_append (State.internal_keeps _ 1)).mono (by decide)

section
variable {i : Instr} {s : State} {a : Word} {n : Nat}

theorem exists_next_of_jumpTo (he : exec i s = .next (jumpTo s a)) (hn : (encode i).length + 1 = n) :
    ∃ t, exec i s = .next t ∧ t.pc = a ∧ Keeps [.pc, .cycles] s t ∧ Costs i n s t :=
  ⟨_, he, rfl, jumpTo_keeps s a, (Steady.jumpTo s a).costs hn⟩

/-- A conditional jump changes pc and `cycles` at most, and both only when it is taken. -/
theorem exists_next_of_jumpIf {c : Cond} (he : exec i s = .next (jumpIf s (s.cond c) a))
    (hn : (encode i).length = n) :
    ∃ t, exec i s = .next t ∧ Keeps [.pc, .cycles] s t ∧ (CondHolds c s → t.pc = a ∧ Costs i (n + 1) s t) ∧
      (¬ CondHolds c s → t.pc = s.pc ∧ Costs i n s t) := by
  obtain ⟨hc, he⟩ | ⟨hc, he⟩ := exec_of_cond he
  · obtain ⟨t, he, hpc, hkeeps, hcosts⟩ := exists_next_of_jumpTo he (congrArg (· + 1) hn)
    exact ⟨t, he, hkeeps, fun _ => ⟨hpc, hcosts⟩, fun h => absurd hc h⟩
  · exact ⟨s, he, Keeps.refl _ s, fun h => absurd h hc, fun _ => ⟨rfl, Costs.of_length s hn⟩⟩

end

theorem exec_jpCc (c : Cond) (a : Word) (s : State) : exec (.jpCc c a) s = .next (jumpIf s (s.cond c) a) := by
  cases c <;> rfl

theorem exec_jrCc (c : Cond) (e : Byte) (s : State) :
    exec (.jrCc c e) s = .next (jumpIf s (s.cond c) (relativeTarget s e)) := by
  cases c <;> rfl

theorem relativeTarget_plusSigned (s : State) (e : Byte) : PlusSigned s.pc e (relativeTarget s e) :=
  PlusSigned.sext16 s.pc e

/-- Settles O27: the operand is the target, and for `JP HL` the pair itself is, with no cycle charged. -/
theorem absoluteJumps : Obligations.AbsoluteJumps := fun s a c =>
  ⟨⟨rfl, exists_next_of_jumpTo rfl rfl⟩,
    ⟨encode_jpCc c a, exists_next_of_jumpIf (exec_jpCc c a s) (length_encode_jpCc c a)⟩,
    rfl, _, rfl, rfl, s.setPC_keeps s.hl, (Steady.setPC s s.hl).costs (k := 0) rfl⟩

/-- Settles O28: both jumps are to the sum of pc, which is past the instruction, and the signed operand. -/
theorem relativeJumps : Obligations.RelativeJumps := by
  intro s e c
  have htarget := relativeTarget_plusSigned s e
  constructor
  · obtain ⟨t, he, hpc, hframe⟩ := exists_next_of_jumpTo (i := .jr_e8 e) (s := s) rfl rfl
    exact ⟨rfl, t, he, hpc ▸ htarget, hframe⟩
  · obtain ⟨t, he, hkeeps, htaken, huntaken⟩ :=
      exists_next_of_jumpIf (exec_jrCc c e s) (length_encode_jrCc c e)
    refine ⟨encode_jrCc c e, t, he, hkeeps, fun h => ?_, huntaken⟩
    obtain ⟨hpc, hcosts⟩ := htaken h
    exact ⟨hpc ▸ htarget, hcosts⟩

/-! ### Calls (R141, R142, R146) -/

theorem callTo_pushed (s : State) (a : Word) : Pushed s.pc s (callTo s a) :=
  (s.pushWord_spec s.pc).congr (t := s.pushWord s.pc) rfl rfl (SameFacade.refl s) ⟨rfl, rfl, rfl, rfl, rfl, rfl⟩

theorem callTo_keeps (s : State) (a : Word) : Keeps (.pc :: .sp :: writeParts) s (callTo s a) :=
  (s.pushWord_keeps s.pc).trans_append (State.setPC_keeps _ a)

/-- Everything a call does: pc, which is past the instruction, is the address pushed. -/
theorem callTo_spec {i : Instr} {n : Nat} (s : State) (a : Word) (hn : (encode i).length + 3 = n) :
    Pushed s.pc s (callTo s a) ∧ (callTo s a).pc = a ∧ Keeps (.pc :: .sp :: writeParts) s (callTo s a) ∧
      Costs i n s (callTo s a) :=
  ⟨callTo_pushed s a, rfl, callTo_keeps s a, (Steady.callTo s a).costs hn⟩

theorem exec_callCc (c : Cond) (a : Word) (s : State) : exec (.callCc c a) s = .next (callIf s (s.cond c) a) := by
  cases c <;> rfl

theorem exec_rst (y : Fin 8) (s : State) : exec (.rst y) s = .next (restartAt s y) := by fin_cases y <;> rfl

/-- Settles O29: a call not taken leaves the state as the fetch left it. -/
theorem callsPushTheReturnAddress : Obligations.CallsPushTheReturnAddress := by
  intro s a c
  have hlen := length_encode_callCc c a
  exact ⟨⟨rfl, _, rfl, callTo_spec s a rfl⟩, encode_callCc c a,
    exists_next_of_cond (exec_callCc c a s) (callTo_spec s a (by rw [hlen])) ⟨Keeps.refl _ s, Costs.of_length s hlen⟩⟩

/-- Settles O32: a restart is a call to one of the first 64 addresses. -/
theorem restartCallsFixedAddress : Obligations.RestartCallsFixedAddress := by
  intro s y
  have hlen := length_encode_rst y
  have htarget : (BitVec.ofNat 16 (8 * y.val)).toNat = 8 * y.val := by
    rw [BitVec.toNat_ofNat]
    omega
  obtain ⟨hpushed, hpc, hframe⟩ := callTo_spec (i := .rst y) s (BitVec.ofNat 16 (8 * y.val)) (by rw [hlen])
  exact ⟨encode_rst y, _, exec_rst y s, hpushed, (congrArg BitVec.toNat hpc).trans htarget, hframe⟩

/-! ### Returns (R143 to R145) -/

theorem State.returnToCaller_popped (s : State) : Popped s.returnToCaller.pc s s.returnToCaller :=
  s.popWord_spec.congr (t := s.popWord.2) rfl rfl (SameFacade.refl s) ⟨rfl, rfl, rfl, rfl, rfl, rfl⟩

theorem State.returnToCaller_keeps (s : State) : Keeps (.pc :: .sp :: readParts) s s.returnToCaller :=
  have hpop := s.popWord_keeps.trans_append (State.setPC_keeps _ s.popWord.1)
  (hpop.trans_append (State.internal_keeps _ 1)).mono (by decide)

theorem exec_retCc (c : Cond) (s : State) : exec (.retCc c) s = .next (returnIf s (s.cond c)) := by
  cases c <;> rfl

/-- Settles O30: the cycle that a conditional return waits first is not seen by the facade. -/
theorem returnsPopTheReturnAddress : Obligations.ReturnsPopTheReturnAddress := by
  intro s c
  have hlen := length_encode_retCc c
  have hwait : Keeps [.cycles] s (s.internal 1) := s.internal_keeps 1
  have hcosts : Costs .ret 4 s s.returnToCaller := (Steady.returnToCaller s).costs (k := 3) rfl
  refine ⟨⟨rfl, _, rfl, s.returnToCaller_popped, s.returnToCaller_keeps, hcosts⟩, encode_retCc c,
    exists_next_of_cond (exec_retCc c s) ⟨?_, ?_, ?_⟩ ⟨hwait, ?_⟩⟩
  · exact (s.internal 1).returnToCaller_popped.congr (s := s.internal 1) rfl rfl ⟨rfl, rfl, rfl, rfl, rfl, rfl⟩
      (SameFacade.refl _)
  · exact (hwait.mono (by decide)).trans (s.internal 1).returnToCaller_keeps
  · exact (Steady.returnIf s true).costs (k := 4) (by rw [hlen])
  · exact (Steady.returnIf s false).costs (k := 1) (by rw [hlen])

/-- Settles O31: the gate is written after the return, and neither the facade nor the counter sees it. -/
theorem returnFromInterruptSetsTheGate : Obligations.ReturnFromInterruptSetsTheGate := by
  intro s
  have hpopped : Popped s.returnFromInterrupt.pc s s.returnFromInterrupt :=
    s.returnToCaller_popped.congr (t := s.returnToCaller) rfl rfl (SameFacade.refl s) ⟨rfl, rfl, rfl, rfl, rfl, rfl⟩
  have hkeeps := s.returnToCaller_keeps.trans_append (State.setIME_keeps _ true)
  exact ⟨rfl, _, rfl, hpopped, rfl, hkeeps.mono (by decide), Costs.of_cycles 3 rfl s.returnToCaller_cycles⟩

/-! ### The jump to itself (R191) -/

/-- With no move waiting and a plain facade, the step is the meaning of the instruction stored at pc. -/
theorem step_of_decode {s : State} {i : Instr} {rest : List Byte} (hinbox : s.inbox = []) (hno : NoDispatch s)
    (hplain : s.plainFacade)
    (hdecode : decode [s.byteAt s.pc, s.byteAt (s.pc + 1), s.byteAt (s.pc + 2)] = .ok (i, rest)) :
    step s = exec i (s.beginTick.past (encode i).length) := by
  have hfetch : s.beginTick.fetchInstr = (i, s.beginTick.past (encode i).length) :=
    State.fetchInstr_of_decode (fun _ _ => hplain _) hdecode
  calc step s = tick s := by rw [step, State.environment_of_empty hinbox]
    _ = exec s.beginTick.fetchInstr.1 s.beginTick.fetchInstr.2 := tick_of_noDispatch hno
    _ = exec i (s.beginTick.past (encode i).length) := by rw [hfetch]

/-- The operand -2 takes back the two bytes of the instruction. -/
theorem relativeTarget_past_two (s : State) : relativeTarget (s.past 2) 0xFE = s.pc :=
  calc s.pc + 2 + sext16 0xFE = s.pc + (2 + sext16 0xFE) := BitVec.add_assoc _ _ _
    _ = s.pc + 0 := rfl
    _ = s.pc := BitVec.add_zero _

/-- Settles O59: the fetch moves pc past the jump, and the jump moves it back. -/
theorem selfJumpIsAFixedPoint : Obligations.SelfJumpIsAFixedPoint := by
  intro s hinbox hno hplain hopcode hoperand
  have hdecode : decode [s.byteAt s.pc, s.byteAt (s.pc + 1), s.byteAt (s.pc + 2)] =
      .ok (.jr_e8 0xFE, [s.byteAt (s.pc + 2)]) := by
    rw [hopcode, hoperand]
    exact decode_encode_append (.jr_e8 0xFE) _
  have hstep : step s = .next (jumpTo (s.beginTick.past 2) (relativeTarget (s.beginTick.past 2) 0xFE)) :=
    step_of_decode hinbox hno hplain hdecode
  rw [relativeTarget_past_two] at hstep
  refine ⟨_, hstep, rfl, fun p hp => ?_⟩
  cases p with
  | cycles => simp at hp
  | memory => exact fun _ => rfl
  | _ => rfl

end Sys2Proof.Machine
end

section
/-! ## The system instructions (R150 to R156)

The no-operations, the two writers of the gate, and the step that fetches one of these: a stored byte that is the whole
instruction. The gate that EI sets opens the tick right after it to a dispatch (`tick_of_dispatches`). -/

namespace Sys2Proof.Machine

/-! ### What the meanings do (R150 to R155) -/

/-- Settles O34: each of the thirteen means no operation, and its cost is its one fetched byte. -/
theorem undefinedHaltAndStopAreNoOperations : Obligations.UndefinedHaltAndStopAreNoOperations := by
  intro s i b hmem
  have hnop : encode i = [b] ∧ exec i s = .next s := by
    fin_cases hmem <;> exact ⟨rfl, rfl⟩
  obtain ⟨hencode, hexec⟩ := hnop
  exact ⟨hencode, s, hexec, Keeps.refl _ s, Costs.of_length s (congrArg List.length hencode)⟩

/-- A one-byte instruction whose meaning is a write of the gate changes nothing else and costs its fetch. -/
theorem exists_next_of_setIME {i : Instr} {s : State} {gate : Bool} (he : exec i s = .next { s with IME := gate })
    (hn : (encode i).length = 1) :
    ∃ t, exec i s = .next t ∧ t.IME = gate ∧ Keeps [.IME] s t ∧ Costs i 1 s t :=
  ⟨_, he, rfl, s.setIME_keeps gate, Costs.of_length s hn⟩

/-- Settles O35: the meaning of either is the write of the gate. -/
theorem disableAndEnableWriteTheGate : Obligations.DisableAndEnableWriteTheGate := fun _ =>
  ⟨⟨rfl, exists_next_of_setIME rfl rfl⟩, rfl, exists_next_of_setIME rfl rfl⟩

/-! ### The step of a one-byte instruction (R156) -/

/-- With no move waiting, the step is the meaning of the one-byte instruction stored at pc, whatever stands behind the
addresses after it. -/
theorem step_of_encode_eq_byteAt {s : State} {i : Instr} (hinbox : s.inbox = []) (hno : NoDispatch s)
    (hkind : s.kindAt s.pc = .ram ∨ s.kindAt s.pc = .rom) (hencode : encode i = [s.byteAt s.pc]) :
    step s = exec i { s with pc := s.pc + 1, cycles := 1 } := by
  have hstep := stepRunsTheDecodedInstruction s i [s.byteAt (s.pc + 1), s.byteAt (s.pc + 2)]
  have hdecode := decode_encode_append i [s.byteAt (s.pc + 1), s.byteAt (s.pc + 2)]
  rw [hencode] at hdecode
  rw [State.environment_of_empty hinbox, hencode] at hstep
  refine hstep hno (fun k hk => ?_) hdecode
  obtain rfl : k = 0 := Nat.lt_one_iff.1 hk
  simpa using hkind

theorem State.beginTick_keeps (s : State) : Keeps [.cycles] s s.beginTick := by
  intro p hp
  cases p with
  | cycles => simp at hp
  | memory => exact fun _ => rfl
  | _ => rfl

/-- Settles O33: the step is the fetch of the one byte, and the meaning leaves the state as the fetch left it. -/
theorem noOperationChangesNothing : Obligations.NoOperationChangesNothing := by
  constructor
  · intro s
    exact ⟨rfl, s, rfl, Keeps.refl _ s⟩
  · intro s hinbox hno hkind hbyte
    have hstep : step s = .next { s with pc := s.pc + 1, cycles := 1 } :=
      step_of_encode_eq_byteAt (i := .nop) hinbox hno hkind (by rw [hbyte]; rfl)
    have hfetch := (State.setPC_keeps s.beginTick (s.pc + 1)).trans_append (State.internal_keeps _ 1)
    have hkeeps := s.beginTick_keeps.trans_append hfetch
    exact ⟨_, hstep, BitVec.toNat_add s.pc 1, rfl, hkeeps.mono (by decide)⟩

/-! ### The dispatch right after EI (R152, R165 to R169) -/

/-- Everything a tick does that dispatches source number `n`. -/
theorem tick_of_dispatches {s : State} {n : Nat} (h : Dispatches n s) :
    ∃ t, tick s = .next t ∧ t.IME = false ∧ t.pc = BitVec.ofNat 16 (0x40 + 8 * n) ∧
      t.cycles = s.cfg.dispatchCycles ∧
      Pushed s.pc { s with IME := false, IF := s.IF &&& ~~~ ((1 : Byte) <<< n) } t ∧
      Keeps (.IME :: .pc :: .sp :: writeParts) s t := by
  obtain ⟨source, rfl, hselected⟩ := (State.selected_eq_some s n).1 h
  obtain ⟨hgate, hpc, hcycles, hpushed, hkeeps⟩ := s.beginTick.dispatch_spec source
  refine ⟨_, tick_of_selected hselected, hgate, hpc.trans source.vector_eq, hcycles, ?_, ?_⟩
  · exact hpushed.congr (s := { s.beginTick with IME := false, IF := s.IF &&& ~~~ source.mask }) rfl rfl
      ⟨rfl, rfl, rfl, rfl, rfl, rfl⟩ (SameFacade.refl _)
  · exact (s.beginTick_keeps.mono (by decide)).trans hkeeps

/-- Settles O52: EI runs because the gate is unset; it leaves the masks as they were and the gate set, so that the next
tick finds the source. -/
theorem enableThenDispatchAtTheNextTick : Obligations.EnableThenDispatchAtTheNextTick := by
  intro s n hplain hinbox hgate hdispatches hbyte
  let m : State := { s with pc := s.pc + 1, cycles := 1, IME := true }
  have hei : step s = .next m :=
    step_of_encode_eq_byteAt (i := .ei) hinbox (.inl hgate) (hplain _) (by rw [hbyte]; rfl)
  obtain ⟨t, htick, htgate, htpc, -, hpushed, -⟩ := tick_of_dispatches (s := m) hdispatches
  have hnext : step m = .next t := by rw [step, State.environment_of_empty (s := m) hinbox, htick]
  exact ⟨m, t, hei, rfl, rfl, rfl, hnext, htgate, htpc, hpushed⟩

end Sys2Proof.Machine
end

section
/-! ## Interrupts, the environment and the cost table (R163 to R173, R189, R190)

The dispatch of a tick (`tick_of_dispatches`) and what its push does to a facade that only stores or to a stack in RAM;
the writers of the gate and the costs, read off `exec_meant`; the moves of the environment before a tick. -/

namespace Sys2Proof.Machine

/-! ### When a tick dispatches (R165 to R169) -/

/-- Settles O46: the step is the tick from the state that the environment has left. -/
theorem dispatchSequence : Obligations.DispatchSequence := fun _ _ h => tick_of_dispatches h

theorem noDispatch_iff_not (s : State) : NoDispatch s ↔ ¬ (s.IME = true ∧ s.IE &&& s.IF &&& 0x1F ≠ 0) := by
  simp [NoDispatch, imp_iff_not_or]

/-- A tick that would not run an instruction has a source to dispatch. -/
theorem exists_dispatches_of_not_noDispatch {s : State} (h : ¬ NoDispatch s) : ∃ n, Dispatches n s := by
  rw [← State.selected_eq_none, ← ne_eq, Option.ne_none_iff_exists'] at h
  obtain ⟨source, hselected⟩ := h
  exact ⟨source.bit, (s.selected_eq_some _).2 ⟨source, rfl, hselected⟩⟩

/-- Settles O47: the two clauses are the two cases of `NoDispatch`. -/
theorem dispatchExactlyWhenGateAndRequest : Obligations.DispatchExactlyWhenGateAndRequest := by
  intro s
  constructor
  · intro hrequest
    obtain ⟨n, hdispatches⟩ := exists_dispatches_of_not_noDispatch
      (fun hno => (noDispatch_iff_not _).1 hno hrequest)
    obtain ⟨t, htick, hgate, hpc, -⟩ := tick_of_dispatches hdispatches
    exact ⟨n, t, hdispatches, htick, hgate, hpc⟩
  · intro hno
    exact ⟨tick_of_noDispatch ((noDispatch_iff_not _).2 hno), rfl, rfl, rfl⟩

/-! ### What a push leaves (R44, R171) -/

section
variable {v : Word} {s t : State}

theorem Pushed.cfg (h : Pushed v s t) : t.cfg = s.cfg := by
  obtain ⟨m, hfirst, hsecond⟩ := h.writes
  exact hsecond.cfg.trans hfirst.cfg

/-- A push through a facade that only stores does not reach the masks. -/
theorem Pushed.masks (h : Pushed v s t) (hplain : s.plainFacade) : t.IE = s.IE ∧ t.IF = s.IF := by
  obtain ⟨m, hfirst, hsecond⟩ := h.writes
  obtain ⟨hIE, hIF, -⟩ := hfirst.quiet (hplain _)
  obtain ⟨hIE', hIF', -⟩ := hsecond.quiet (State.plainFacade_of_cfg hfirst.cfg hplain _)
  exact ⟨hIE'.trans hIE, hIF'.trans hIF⟩

/-- A pop after a push onto RAM answers the word pushed. -/
theorem Pushed.popWord_eq (h : Pushed v s t) (hhi : s.kindAt (s.sp - 1) = .ram) (hlo : s.kindAt (s.sp - 2) = .ram) :
    t.popWord.1 = v := by
  have hnext : t.sp + 1 = s.sp - 1 := by
    rw [h.sp]
    bv_omega
  obtain ⟨hstoredHi, hstoredLo⟩ := h.stored hhi hlo
  have hpopped := t.popWord_spec.word_eq (by rwa [h.sp, State.kindAt_eq_of_cfg h.cfg])
    (by rwa [hnext, State.kindAt_eq_of_cfg h.cfg])
  rw [hpopped, hnext, h.sp, hstoredHi, hstoredLo, joinBytes_hi_lo]

end

/-- Settles O48: the dispatch clears one bit before its push, which goes to stored bytes, and it clears the gate. -/
theorem oneDispatchLeavesTheRestPending : Obligations.OneDispatchLeavesTheRestPending := by
  intro s t n hplain hdispatches hstep
  obtain ⟨t', htick, hgate, -, -, hpushed, -⟩ := tick_of_dispatches hdispatches
  obtain rfl : t' = t := by simpa [step, htick] using hstep
  obtain ⟨hIE, hIF⟩ := hpushed.masks hplain
  have hno : NoDispatch t' := .inl hgate
  refine ⟨hIE, fun k hk => ?_, hno, fun hinbox => ?_⟩
  · obtain ⟨-, hn, -⟩ := hdispatches
    rw [hIF]
    exact resetBit_withBit ⟨n, by omega⟩ s.environment.IF k hk
  · rw [step, State.environment_of_empty hinbox, tick_of_noDispatch hno]

/-! ### The return from a handler (R145, R173) -/

/-- Settles O53: RETI pops the pc that the dispatch has pushed, and neither writes a register but sp. -/
theorem dispatchThenReturnResumes : Obligations.DispatchThenReturnResumes := by
  intro s n hdispatches hhi hlo
  obtain ⟨m, htick, -, -, -, hpushed, hkeeps⟩ := tick_of_dispatches hdispatches
  refine ⟨m, m.returnFromInterrupt, htick, rfl, hpushed.popWord_eq hhi hlo, ?_, rfl, ?_, fun r => ?_⟩
  · calc m.returnToCaller.sp = m.sp + 2 := m.returnToCaller_sp
      _ = s.environment.sp - 2 + 2 := by rw [hpushed.sp]
      _ = s.environment.sp := BitVec.sub_add_cancel _ _
  · exact m.returnToCaller_F.trans (hkeeps .F (by decide))
  · calc m.returnFromInterrupt.reg r = m.returnToCaller.reg r := by cases r <;> rfl
      _ = m.reg r := m.returnToCaller_reg r
      _ = s.environment.reg r := hkeeps (.reg r) (by simp)

/-! ### The writers of the gate (R164) -/

theorem gateAfter_eq_ite (i : Instr) (s : State) :
    gateAfter i s = if i = .di then false else if i = .ei ∨ i = .reti then true else s.IME := by
  unfold gateAfter
  split <;> simp_all

theorem State.applyMove_IME (s : State) (m : EnvMove) :
    (s.applyMove m).IME = if m = .powerOnReset then false else s.IME := by
  cases m <;> rfl

/-- Settles O49: the gate after an instruction is `gateAfter`, and of the moves only the reset writes it. -/
theorem writersOfTheGate : Obligations.WritersOfTheGate := by
  refine ⟨fun i s t h => ?_, State.applyMove_IME, fun s n => (s.dispatch_spec n).1⟩
  obtain ⟨m, -, rfl⟩ := Meant.of_exec h
  exact gateAfter_eq_ite i s

/-! ### The environment's moves (R163, R28) -/

theorem State.setIE_keeps (s : State) (v : Byte) : Keeps [.IE] s { s with IE := v } := by
  intro p hp
  cases p with
  | IE => simp at hp
  | memory => exact fun _ => rfl
  | _ => rfl

theorem State.setIF_keeps (s : State) (v : Byte) : Keeps [.IF] s { s with IF := v } := by
  intro p hp
  cases p with
  | IF => simp at hp
  | memory => exact fun _ => rfl
  | _ => rfl

theorem State.setMem_keeps (s : State) (m : Memory) : Keeps [.memory] s { s with mem := m } := by
  intro p hp
  cases p with
  | memory => simp at hp
  | _ => rfl

theorem State.setFacade_keeps (s : State) (n : Nat) : Keeps [.facade] s { s with facade := n } := by
  intro p hp
  cases p with
  | facade => simp at hp
  | memory => exact fun _ => rfl
  | _ => rfl

theorem Source.bit_lt_eight (n : Source) : n.bit < 8 := by cases n <;> decide

theorem Source.getLsbD_mask (n : Source) (k : Nat) : n.mask.getLsbD k = decide (k = n.bit) :=
  getLsbD_one_shiftLeft ⟨n.bit, n.bit_lt_eight⟩ k

theorem State.requestInterrupt_IF_bit (s : State) (n : Source) (k : Nat) :
    (s.applyMove (.requestInterrupt n)).IF.getLsbD k = (decide (k = n.bit) || s.IF.getLsbD k) := by
  rw [← n.getLsbD_mask, Bool.or_comm]
  exact BitVec.getLsbD_or

theorem State.changeMemory_byteAt_other (s : State) {a x : Word} (v : Byte) (h : x ≠ a) :
    (s.applyMove (.changeMemory a v)).byteAt x = s.byteAt x :=
  Memory.read_write_other _ _ fun e => h (BitVec.eq_of_toNat_eq e)

/-- No move reads or writes the moves that wait for the later ticks. -/
theorem State.applyMove_setInbox (s : State) (m : EnvMove) (later : List (List EnvMove)) :
    ({ s with inbox := later }).applyMove m = { s.applyMove m with inbox := later } := by
  cases m <;> rfl

/-- The first waiting move is made first. -/
theorem State.environment_cons (s : State) (m : EnvMove) (moves : List EnvMove) (later : List (List EnvMove)) :
    ({ s with inbox := (m :: moves) :: later }).environment =
      ({ s.applyMove m with inbox := moves :: later }).environment :=
  congrArg (State.applyMoves · moves) (s.applyMove_setInbox m later)

/-- Settles O51: each move is a write of one field, and the moves that wait are made one after the other. -/
theorem portOperationsBetweenTicks : Obligations.PortOperationsBetweenTicks := by
  refine ⟨fun s v => ⟨rfl, s.setIE_keeps v, rfl, s.setIF_keeps v⟩,
    fun s n => ⟨s.setIF_keeps _, fun k _ => s.requestInterrupt_IF_bit n k⟩,
    fun s a v => ⟨Memory.read_write_same _ _ _, fun x hx => s.changeMemory_byteAt_other v hx, s.setMem_keeps _⟩,
    fun s n => ⟨rfl, s.setFacade_keeps n⟩, fun s m moves later => ⟨rfl, ?_⟩⟩
  rw [step, State.environment_cons, step]

/-! ### The cost table (R189, R190) -/

/-- An instruction that tests no condition has one cost. -/
theorem tableCycles_eq_of_condition_eq_none {i : Instr} (h : condition i = none) :
    tableCycles true i = tableCycles false i := by
  cases i with
  | jr_NZ_e8 | jr_Z_e8 | jr_NC_e8 | jr_C_e8 | jp_NZ_a16 | jp_Z_a16 | jp_NC_a16 | jp_C_a16 | call_NZ_a16 | call_Z_a16
  | call_NC_a16 | call_C_a16 | ret_NZ | ret_Z | ret_NC | ret_C => nomatch h
  | _ => rfl

/-- Settles O55: the meaning charges what the table says for the condition as the state has it on entry. -/
theorem cyclesFollowTheCostTable : Obligations.CyclesFollowTheCostTable := by
  intro i s
  obtain ⟨m, hm⟩ := exec_meant i s
  have hcosts : Costs i (tableCycles (takenIn i s) i) s { m with IME := gateAfter i s } := hm.costs
  refine ⟨_, hm.exec_eq, fun htaken => ?_, fun huntaken => ?_, tableCycles_eq_of_condition_eq_none⟩
  · rwa [(takenIn_iff i s).2 htaken] at hcosts
  · rwa [Bool.eq_false_iff.2 (mt (takenIn_iff i s).1 huntaken)] at hcosts

end Sys2Proof.Machine
end
